-- ==== Sys2Proof/Word.lean ====
section
/-! DEFINITION. The two value types of the hardware (00_scope.md R5, R6): 8-bit bytes and 16-bit words.
Byte order, bit fields and everything a test could show wrong stand in Decode.lean and Machine/. -/

namespace Sys2Proof

/-- An 8-bit value: a general register, a memory byte, a port byte, `d8` (00_scope.md R5). -/
abbrev Byte := BitVec 8

/-- A 16-bit value: PC, SP, an address, a register pair, `d16` (00_scope.md R5). -/
abbrev Word := BitVec 16

end Sys2Proof
end

