-- ==== Sys2Proof/Syntax.lean ====
section
/-! DEFINITION. The instructions: one constructor of `Instr` per mnemonic of spec/opcode_table.json, the operand
names of 10_state.md R33 and 45_branch.md R200, and the families (`Instr.of…`) that name a group of rows by its operands. -/

namespace Sys2Proof

/-- The 3-bit operand codes (10_state.md R33); `m` is the byte at address H:L (R32). -/
inductive Reg8 where
  | b | c | d | e | h | l | m | a
  deriving DecidableEq, Repr

/-- The pair operands of LXI, INX, DCX, DAD (10_state.md R33, R35). -/
inductive Pair where
  | bc | de | hl | sp
  deriving DecidableEq, Repr

/-- The pair operands of PUSH and POP (10_state.md R33); `psw` is A:F. -/
inductive StackPair where
  | bc | de | hl | psw
  deriving DecidableEq, Repr

/-- The pair operands of LDAX and STAX (10_state.md R33). -/
inductive IndexPair where
  | bc | de
  deriving DecidableEq, Repr

/-- The conditions of J, C and R (45_branch.md R200). -/
inductive Cond where
  | nz | z | nc | c | po | pe | p | m
  deriving DecidableEq, Repr

/-- The eight ALU operations (30_encoding.md R93, field `aaa`). -/
inductive AluOp where
  | add | adc | sub | sbb | ana | xra | ora | cmp
  deriving DecidableEq, Repr

/-- The instructions (30_encoding.md R96, R97): a constructor per mnemonic of the opcode table, in the table's order.
`unsupported op` is one of the twelve undocumented bytes, `unsupportedDAA` the byte 0x27 (R98). -/
inductive Instr where
  | nop
  | lxiB (d16 : Word)
  | staxB
  | inxB
  | inrB
  | dcrB
  | mviB (d8 : Byte)
  | rlc
  | unsupported (op : Byte)
  | dadB
  | ldaxB
  | dcxB
  | inrC
  | dcrC
  | mviC (d8 : Byte)
  | rrc
  | lxiD (d16 : Word)
  | staxD
  | inxD
  | inrD
  | dcrD
  | mviD (d8 : Byte)
  | ral
  | dadD
  | ldaxD
  | dcxD
  | inrE
  | dcrE
  | mviE (d8 : Byte)
  | rar
  | lxiH (d16 : Word)
  | shld (a16 : Word)
  | inxH
  | inrH
  | dcrH
  | mviH (d8 : Byte)
  | unsupportedDAA
  | dadH
  | lhld (a16 : Word)
  | dcxH
  | inrL
  | dcrL
  | mviL (d8 : Byte)
  | cma
  | lxiSP (d16 : Word)
  | sta (a16 : Word)
  | inxSP
  | inrM
  | dcrM
  | mviM (d8 : Byte)
  | stc
  | dadSP
  | lda (a16 : Word)
  | dcxSP
  | inrA
  | dcrA
  | mviA (d8 : Byte)
  | cmc
  | movBB
  | movBC
  | movBD
  | movBE
  | movBH
  | movBL
  | movBM
  | movBA
  | movCB
  | movCC
  | movCD
  | movCE
  | movCH
  | movCL
  | movCM
  | movCA
  | movDB
  | movDC
  | movDD
  | movDE
  | movDH
  | movDL
  | movDM
  | movDA
  | movEB
  | movEC
  | movED
  | movEE
  | movEH
  | movEL
  | movEM
  | movEA
  | movHB
  | movHC
  | movHD
  | movHE
  | movHH
  | movHL
  | movHM
  | movHA
  | movLB
  | movLC
  | movLD
  | movLE
  | movLH
  | movLL
  | movLM
  | movLA
  | movMB
  | movMC
  | movMD
  | movME
  | movMH
  | movML
  | hlt
  | movMA
  | movAB
  | movAC
  | movAD
  | movAE
  | movAH
  | movAL
  | movAM
  | movAA
  | addB
  | addC
  | addD
  | addE
  | addH
  | addL
  | addM
  | addA
  | adcB
  | adcC
  | adcD
  | adcE
  | adcH
  | adcL
  | adcM
  | adcA
  | subB
  | subC
  | subD
  | subE
  | subH
  | subL
  | subM
  | subA
  | sbbB
  | sbbC
  | sbbD
  | sbbE
  | sbbH
  | sbbL
  | sbbM
  | sbbA
  | anaB
  | anaC
  | anaD
  | anaE
  | anaH
  | anaL
  | anaM
  | anaA
  | xraB
  | xraC
  | xraD
  | xraE
  | xraH
  | xraL
  | xraM
  | xraA
  | oraB
  | oraC
  | oraD
  | oraE
  | oraH
  | oraL
  | oraM
  | oraA
  | cmpB
  | cmpC
  | cmpD
  | cmpE
  | cmpH
  | cmpL
  | cmpM
  | cmpA
  | rnz
  | popB
  | jnz (a16 : Word)
  | jmp (a16 : Word)
  | cnz (a16 : Word)
  | pushB
  | adi (d8 : Byte)
  | rst0
  | rz
  | ret
  | jz (a16 : Word)
  | cz (a16 : Word)
  | call (a16 : Word)
  | aci (d8 : Byte)
  | rst1
  | rnc
  | popD
  | jnc (a16 : Word)
  | outPort (p : Byte)
  | cnc (a16 : Word)
  | pushD
  | sui (d8 : Byte)
  | rst2
  | rc
  | jc (a16 : Word)
  | inPort (p : Byte)
  | cc (a16 : Word)
  | sbi (d8 : Byte)
  | rst3
  | rpo
  | popH
  | jpo (a16 : Word)
  | xthl
  | cpo (a16 : Word)
  | pushH
  | ani (d8 : Byte)
  | rst4
  | rpe
  | pchl
  | jpe (a16 : Word)
  | xchg
  | cpe (a16 : Word)
  | xri (d8 : Byte)
  | rst5
  | rp
  | popPSW
  | jp (a16 : Word)
  | di
  | cp (a16 : Word)
  | pushPSW
  | ori (d8 : Byte)
  | rst6
  | rm
  | sphl
  | jm (a16 : Word)
  | ei
  | cm (a16 : Word)
  | cpi (d8 : Byte)
  | rst7
  deriving DecidableEq, Repr

/-- `MOV d,s` (40_data_transfer.md R120 to R122). The slot `MOV M,M` would have is HLT (47_control.md R221). -/
def Instr.ofMov : Reg8 → Reg8 → Instr
  | .b, .b => .movBB
  | .b, .c => .movBC
  | .b, .d => .movBD
  | .b, .e => .movBE
  | .b, .h => .movBH
  | .b, .l => .movBL
  | .b, .m => .movBM
  | .b, .a => .movBA
  | .c, .b => .movCB
  | .c, .c => .movCC
  | .c, .d => .movCD
  | .c, .e => .movCE
  | .c, .h => .movCH
  | .c, .l => .movCL
  | .c, .m => .movCM
  | .c, .a => .movCA
  | .d, .b => .movDB
  | .d, .c => .movDC
  | .d, .d => .movDD
  | .d, .e => .movDE
  | .d, .h => .movDH
  | .d, .l => .movDL
  | .d, .m => .movDM
  | .d, .a => .movDA
  | .e, .b => .movEB
  | .e, .c => .movEC
  | .e, .d => .movED
  | .e, .e => .movEE
  | .e, .h => .movEH
  | .e, .l => .movEL
  | .e, .m => .movEM
  | .e, .a => .movEA
  | .h, .b => .movHB
  | .h, .c => .movHC
  | .h, .d => .movHD
  | .h, .e => .movHE
  | .h, .h => .movHH
  | .h, .l => .movHL
  | .h, .m => .movHM
  | .h, .a => .movHA
  | .l, .b => .movLB
  | .l, .c => .movLC
  | .l, .d => .movLD
  | .l, .e => .movLE
  | .l, .h => .movLH
  | .l, .l => .movLL
  | .l, .m => .movLM
  | .l, .a => .movLA
  | .m, .b => .movMB
  | .m, .c => .movMC
  | .m, .d => .movMD
  | .m, .e => .movME
  | .m, .h => .movMH
  | .m, .l => .movML
  | .m, .m => .hlt
  | .m, .a => .movMA
  | .a, .b => .movAB
  | .a, .c => .movAC
  | .a, .d => .movAD
  | .a, .e => .movAE
  | .a, .h => .movAH
  | .a, .l => .movAL
  | .a, .m => .movAM
  | .a, .a => .movAA

/-- `MVI r,d8` (40_data_transfer.md R123, R124). -/
def Instr.ofMvi : Reg8 → Byte → Instr
  | .b, d8 => .mviB d8
  | .c, d8 => .mviC d8
  | .d, d8 => .mviD d8
  | .e, d8 => .mviE d8
  | .h, d8 => .mviH d8
  | .l, d8 => .mviL d8
  | .m, d8 => .mviM d8
  | .a, d8 => .mviA d8

/-- `INR r` (41_arithmetic.md R150). -/
def Instr.ofInr : Reg8 → Instr
  | .b => .inrB
  | .c => .inrC
  | .d => .inrD
  | .e => .inrE
  | .h => .inrH
  | .l => .inrL
  | .m => .inrM
  | .a => .inrA

/-- `DCR r` (41_arithmetic.md R151). -/
def Instr.ofDcr : Reg8 → Instr
  | .b => .dcrB
  | .c => .dcrC
  | .d => .dcrD
  | .e => .dcrE
  | .h => .dcrH
  | .l => .dcrL
  | .m => .dcrM
  | .a => .dcrA

/-- The register and M forms of the ALU operations (41_arithmetic.md R140 to R143, 42_logical.md R165 to R168). -/
def Instr.ofAlu : AluOp → Reg8 → Instr
  | .add, .b => .addB
  | .add, .c => .addC
  | .add, .d => .addD
  | .add, .e => .addE
  | .add, .h => .addH
  | .add, .l => .addL
  | .add, .m => .addM
  | .add, .a => .addA
  | .adc, .b => .adcB
  | .adc, .c => .adcC
  | .adc, .d => .adcD
  | .adc, .e => .adcE
  | .adc, .h => .adcH
  | .adc, .l => .adcL
  | .adc, .m => .adcM
  | .adc, .a => .adcA
  | .sub, .b => .subB
  | .sub, .c => .subC
  | .sub, .d => .subD
  | .sub, .e => .subE
  | .sub, .h => .subH
  | .sub, .l => .subL
  | .sub, .m => .subM
  | .sub, .a => .subA
  | .sbb, .b => .sbbB
  | .sbb, .c => .sbbC
  | .sbb, .d => .sbbD
  | .sbb, .e => .sbbE
  | .sbb, .h => .sbbH
  | .sbb, .l => .sbbL
  | .sbb, .m => .sbbM
  | .sbb, .a => .sbbA
  | .ana, .b => .anaB
  | .ana, .c => .anaC
  | .ana, .d => .anaD
  | .ana, .e => .anaE
  | .ana, .h => .anaH
  | .ana, .l => .anaL
  | .ana, .m => .anaM
  | .ana, .a => .anaA
  | .xra, .b => .xraB
  | .xra, .c => .xraC
  | .xra, .d => .xraD
  | .xra, .e => .xraE
  | .xra, .h => .xraH
  | .xra, .l => .xraL
  | .xra, .m => .xraM
  | .xra, .a => .xraA
  | .ora, .b => .oraB
  | .ora, .c => .oraC
  | .ora, .d => .oraD
  | .ora, .e => .oraE
  | .ora, .h => .oraH
  | .ora, .l => .oraL
  | .ora, .m => .oraM
  | .ora, .a => .oraA
  | .cmp, .b => .cmpB
  | .cmp, .c => .cmpC
  | .cmp, .d => .cmpD
  | .cmp, .e => .cmpE
  | .cmp, .h => .cmpH
  | .cmp, .l => .cmpL
  | .cmp, .m => .cmpM
  | .cmp, .a => .cmpA

/-- The immediate forms of the ALU operations (41_arithmetic.md R144 to R147, 42_logical.md R169 to R172). -/
def Instr.ofAluImm : AluOp → Byte → Instr
  | .add, d8 => .adi d8
  | .adc, d8 => .aci d8
  | .sub, d8 => .sui d8
  | .sbb, d8 => .sbi d8
  | .ana, d8 => .ani d8
  | .xra, d8 => .xri d8
  | .ora, d8 => .ori d8
  | .cmp, d8 => .cpi d8

/-- `LXI rp,d16` (40_data_transfer.md R125). -/
def Instr.ofLxi : Pair → Word → Instr
  | .bc, d16 => .lxiB d16
  | .de, d16 => .lxiD d16
  | .hl, d16 => .lxiH d16
  | .sp, d16 => .lxiSP d16

/-- `INX rp` (41_arithmetic.md R153). -/
def Instr.ofInx : Pair → Instr
  | .bc => .inxB
  | .de => .inxD
  | .hl => .inxH
  | .sp => .inxSP

/-- `DCX rp` (41_arithmetic.md R154). -/
def Instr.ofDcx : Pair → Instr
  | .bc => .dcxB
  | .de => .dcxD
  | .hl => .dcxH
  | .sp => .dcxSP

/-- `DAD rp` (41_arithmetic.md R152). -/
def Instr.ofDad : Pair → Instr
  | .bc => .dadB
  | .de => .dadD
  | .hl => .dadH
  | .sp => .dadSP

/-- `LDAX rp` (40_data_transfer.md R128). -/
def Instr.ofLdax : IndexPair → Instr
  | .bc => .ldaxB
  | .de => .ldaxD

/-- `STAX rp` (40_data_transfer.md R129). -/
def Instr.ofStax : IndexPair → Instr
  | .bc => .staxB
  | .de => .staxD

/-- `PUSH rp` and `PUSH PSW` (44_stack.md R190, R191). -/
def Instr.ofPush : StackPair → Instr
  | .bc => .pushB
  | .de => .pushD
  | .hl => .pushH
  | .psw => .pushPSW

/-- `POP rp` and `POP PSW` (44_stack.md R192, R193). -/
def Instr.ofPop : StackPair → Instr
  | .bc => .popB
  | .de => .popD
  | .hl => .popH
  | .psw => .popPSW

/-- `J<cond> a16` (45_branch.md R202). -/
def Instr.ofJump : Cond → Word → Instr
  | .nz, a16 => .jnz a16
  | .z, a16 => .jz a16
  | .nc, a16 => .jnc a16
  | .c, a16 => .jc a16
  | .po, a16 => .jpo a16
  | .pe, a16 => .jpe a16
  | .p, a16 => .jp a16
  | .m, a16 => .jm a16

/-- `C<cond> a16` (45_branch.md R204). -/
def Instr.ofCall : Cond → Word → Instr
  | .nz, a16 => .cnz a16
  | .z, a16 => .cz a16
  | .nc, a16 => .cnc a16
  | .c, a16 => .cc a16
  | .po, a16 => .cpo a16
  | .pe, a16 => .cpe a16
  | .p, a16 => .cp a16
  | .m, a16 => .cm a16

/-- `R<cond>` (45_branch.md R206). -/
def Instr.ofReturn : Cond → Instr
  | .nz => .rnz
  | .z => .rz
  | .nc => .rnc
  | .c => .rc
  | .po => .rpo
  | .pe => .rpe
  | .p => .rp
  | .m => .rm

/-- `RST n` (45_branch.md R210). -/
def Instr.ofRst : Fin 8 → Instr
  | 0 => .rst0
  | 1 => .rst1
  | 2 => .rst2
  | 3 => .rst3
  | 4 => .rst4
  | 5 => .rst5
  | 6 => .rst6
  | 7 => .rst7

end Sys2Proof
end

