-- ==== Sys2Proof/WellFormed.lean ====
section
/-! DEFINITION. Which terms of `Instr` stand for an instruction of the hardware. Every operand value is legal
(30_encoding.md R99), so the one check is on the byte that `unsupported` carries. -/

namespace Sys2Proof

/-- The twelve opcode bytes the 8080 leaves undocumented (30_encoding.md R98), less 0x27, which has its own constructor. -/
def undocumentedBytes : List Byte :=
  [0x08#8, 0x10#8, 0x18#8, 0x20#8, 0x28#8, 0x30#8, 0x38#8, 0xCB#8, 0xD9#8, 0xDD#8, 0xED#8, 0xFD#8]

/-- An instruction is well formed unless it is `unsupported` with a byte that is not one of the twelve. -/
def Instr.wf : Instr → Bool
  | .unsupported op => undocumentedBytes.contains op
  | _ => true

end Sys2Proof
end

