-- ==== Sys2Proof/Decode.lean ====
section
/-! DEFINITION. The decoder (by the grid of 30_encoding.md R97), the encoder (by the patterns of R96), and the byte-order
helpers both use (20_memory.md R68, 30_encoding.md R94). -/

namespace Sys2Proof

/-- `hi:lo`, the 16-bit value of two bytes (00_scope.md R6). -/
def joinBytes (hi lo : Byte) : Word := hi ++ lo

/-- Bits 15:8 of a word. -/
def hiByte (w : Word) : Byte := w.extractLsb' 8 8

/-- Bits 7:0 of a word. -/
def loByte (w : Word) : Byte := w.extractLsb' 0 8

/-- What an opcode byte asks for: the three formats of 30_encoding.md R92. -/
inductive Shape where
  | i1 (i : Instr)
  | i2 (f : Byte → Instr)
  | i3 (f : Word → Instr)

/-- Row 0x of the opcode grid (30_encoding.md R97). -/
def gridRow0 : List Shape :=
  [.i1 .nop, .i3 .lxiB, .i1 .staxB, .i1 .inxB, .i1 .inrB, .i1 .dcrB, .i2 .mviB, .i1 .rlc,
   .i1 (.unsupported 0x08#8), .i1 .dadB, .i1 .ldaxB, .i1 .dcxB, .i1 .inrC, .i1 .dcrC, .i2 .mviC, .i1 .rrc]

/-- Row 1x of the opcode grid (30_encoding.md R97). -/
def gridRow1 : List Shape :=
  [.i1 (.unsupported 0x10#8), .i3 .lxiD, .i1 .staxD, .i1 .inxD, .i1 .inrD, .i1 .dcrD, .i2 .mviD, .i1 .ral,
   .i1 (.unsupported 0x18#8), .i1 .dadD, .i1 .ldaxD, .i1 .dcxD, .i1 .inrE, .i1 .dcrE, .i2 .mviE, .i1 .rar]

/-- Row 2x of the opcode grid (30_encoding.md R97). -/
def gridRow2 : List Shape :=
  [.i1 (.unsupported 0x20#8), .i3 .lxiH, .i3 .shld, .i1 .inxH, .i1 .inrH, .i1 .dcrH, .i2 .mviH, .i1 .unsupportedDAA,
   .i1 (.unsupported 0x28#8), .i1 .dadH, .i3 .lhld, .i1 .dcxH, .i1 .inrL, .i1 .dcrL, .i2 .mviL, .i1 .cma]

/-- Row 3x of the opcode grid (30_encoding.md R97). -/
def gridRow3 : List Shape :=
  [.i1 (.unsupported 0x30#8), .i3 .lxiSP, .i3 .sta, .i1 .inxSP, .i1 .inrM, .i1 .dcrM, .i2 .mviM, .i1 .stc,
   .i1 (.unsupported 0x38#8), .i1 .dadSP, .i3 .lda, .i1 .dcxSP, .i1 .inrA, .i1 .dcrA, .i2 .mviA, .i1 .cmc]

/-- Row 4x of the opcode grid (30_encoding.md R97). -/
def gridRow4 : List Shape :=
  [.i1 .movBB, .i1 .movBC, .i1 .movBD, .i1 .movBE, .i1 .movBH, .i1 .movBL, .i1 .movBM, .i1 .movBA,
   .i1 .movCB, .i1 .movCC, .i1 .movCD, .i1 .movCE, .i1 .movCH, .i1 .movCL, .i1 .movCM, .i1 .movCA]

/-- Row 5x of the opcode grid (30_encoding.md R97). -/
def gridRow5 : List Shape :=
  [.i1 .movDB, .i1 .movDC, .i1 .movDD, .i1 .movDE, .i1 .movDH, .i1 .movDL, .i1 .movDM, .i1 .movDA,
   .i1 .movEB, .i1 .movEC, .i1 .movED, .i1 .movEE, .i1 .movEH, .i1 .movEL, .i1 .movEM, .i1 .movEA]

/-- Row 6x of the opcode grid (30_encoding.md R97). -/
def gridRow6 : List Shape :=
  [.i1 .movHB, .i1 .movHC, .i1 .movHD, .i1 .movHE, .i1 .movHH, .i1 .movHL, .i1 .movHM, .i1 .movHA,
   .i1 .movLB, .i1 .movLC, .i1 .movLD, .i1 .movLE, .i1 .movLH, .i1 .movLL, .i1 .movLM, .i1 .movLA]

/-- Row 7x of the opcode grid (30_encoding.md R97). -/
def gridRow7 : List Shape :=
  [.i1 .movMB, .i1 .movMC, .i1 .movMD, .i1 .movME, .i1 .movMH, .i1 .movML, .i1 .hlt, .i1 .movMA,
   .i1 .movAB, .i1 .movAC, .i1 .movAD, .i1 .movAE, .i1 .movAH, .i1 .movAL, .i1 .movAM, .i1 .movAA]

/-- Row 8x of the opcode grid (30_encoding.md R97). -/
def gridRow8 : List Shape :=
  [.i1 .addB, .i1 .addC, .i1 .addD, .i1 .addE, .i1 .addH, .i1 .addL, .i1 .addM, .i1 .addA,
   .i1 .adcB, .i1 .adcC, .i1 .adcD, .i1 .adcE, .i1 .adcH, .i1 .adcL, .i1 .adcM, .i1 .adcA]

/-- Row 9x of the opcode grid (30_encoding.md R97). -/
def gridRow9 : List Shape :=
  [.i1 .subB, .i1 .subC, .i1 .subD, .i1 .subE, .i1 .subH, .i1 .subL, .i1 .subM, .i1 .subA,
   .i1 .sbbB, .i1 .sbbC, .i1 .sbbD, .i1 .sbbE, .i1 .sbbH, .i1 .sbbL, .i1 .sbbM, .i1 .sbbA]

/-- Row Ax of the opcode grid (30_encoding.md R97). -/
def gridRowA : List Shape :=
  [.i1 .anaB, .i1 .anaC, .i1 .anaD, .i1 .anaE, .i1 .anaH, .i1 .anaL, .i1 .anaM, .i1 .anaA,
   .i1 .xraB, .i1 .xraC, .i1 .xraD, .i1 .xraE, .i1 .xraH, .i1 .xraL, .i1 .xraM, .i1 .xraA]

/-- Row Bx of the opcode grid (30_encoding.md R97). -/
def gridRowB : List Shape :=
  [.i1 .oraB, .i1 .oraC, .i1 .oraD, .i1 .oraE, .i1 .oraH, .i1 .oraL, .i1 .oraM, .i1 .oraA,
   .i1 .cmpB, .i1 .cmpC, .i1 .cmpD, .i1 .cmpE, .i1 .cmpH, .i1 .cmpL, .i1 .cmpM, .i1 .cmpA]

/-- Row Cx of the opcode grid (30_encoding.md R97). -/
def gridRowC : List Shape :=
  [.i1 .rnz, .i1 .popB, .i3 .jnz, .i3 .jmp, .i3 .cnz, .i1 .pushB, .i2 .adi, .i1 .rst0,
   .i1 .rz, .i1 .ret, .i3 .jz, .i1 (.unsupported 0xCB#8), .i3 .cz, .i3 .call, .i2 .aci, .i1 .rst1]

/-- Row Dx of the opcode grid (30_encoding.md R97). -/
def gridRowD : List Shape :=
  [.i1 .rnc, .i1 .popD, .i3 .jnc, .i2 .outPort, .i3 .cnc, .i1 .pushD, .i2 .sui, .i1 .rst2,
   .i1 .rc, .i1 (.unsupported 0xD9#8), .i3 .jc, .i2 .inPort, .i3 .cc, .i1 (.unsupported 0xDD#8), .i2 .sbi, .i1 .rst3]

/-- Row Ex of the opcode grid (30_encoding.md R97). -/
def gridRowE : List Shape :=
  [.i1 .rpo, .i1 .popH, .i3 .jpo, .i1 .xthl, .i3 .cpo, .i1 .pushH, .i2 .ani, .i1 .rst4,
   .i1 .rpe, .i1 .pchl, .i3 .jpe, .i1 .xchg, .i3 .cpe, .i1 (.unsupported 0xED#8), .i2 .xri, .i1 .rst5]

/-- Row Fx of the opcode grid (30_encoding.md R97). -/
def gridRowF : List Shape :=
  [.i1 .rp, .i1 .popPSW, .i3 .jp, .i1 .di, .i3 .cp, .i1 .pushPSW, .i2 .ori, .i1 .rst6,
   .i1 .rm, .i1 .sphl, .i3 .jm, .i1 .ei, .i3 .cm, .i1 (.unsupported 0xFD#8), .i2 .cpi, .i1 .rst7]

/-- The opcode map: the rows by the high hex digit of the opcode byte (30_encoding.md R97). -/
def opcodeGrid : List (List Shape) :=
  [gridRow0, gridRow1, gridRow2, gridRow3, gridRow4, gridRow5, gridRow6, gridRow7,
   gridRow8, gridRow9, gridRowA, gridRowB, gridRowC, gridRowD, gridRowE, gridRowF]

/-- The entry of an opcode byte, row and column by its two hex digits; the grid has all 256, so the defaults are never
used. -/
def shapeOf (op : Byte) : Shape :=
  (opcodeGrid.getD (op.toNat / 16) []).getD (op.toNat % 16) (.i1 (.unsupported op))

/-- The number of bytes fetched for an opcode byte (30_encoding.md R92, R95); 1 for an unsupported byte, whose
operands are never read. -/
def opcodeLength (op : Byte) : Nat :=
  match shapeOf op with
  | .i1 _ => 1
  | .i2 _ => 2
  | .i3 _ => 3

/-- The instruction of an opcode byte and the two bytes after it, as far as its format uses them (30_encoding.md R94:
`d8` is the next byte, `d16` is little-endian). Total: every byte value has an entry. -/
def decodeAt (op b1 b2 : Byte) : Instr :=
  match shapeOf op with
  | .i1 i => i
  | .i2 f => f b1
  | .i3 f => f (joinBytes b2 b1)

/-- Why a list of bytes holds no instruction. -/
inductive DecodeError where
  /-- There is no opcode byte. -/
  | noBytes
  /-- The operand bytes of this opcode are not all there. -/
  | truncated (op : Byte)
  deriving DecidableEq, Repr

/-- Decode the instruction at the head of a list of bytes, and give the bytes after it. -/
def decode : List Byte → Except DecodeError (Instr × List Byte)
  | [] => .error .noBytes
  | op :: rest =>
    match shapeOf op, rest with
    | .i1 i, rest => .ok (i, rest)
    | .i2 f, d8 :: rest => .ok (f d8, rest)
    | .i3 f, lo :: hi :: rest => .ok (f (joinBytes hi lo), rest)
    | _, _ => .error (.truncated op)

/-- The three bytes of a table word, first byte in bits 7:0, every bit above `nbits` zero. -/
def tableBytes (nbits w : Nat) : Byte × Byte × Byte :=
  let v := w % 2 ^ nbits
  (BitVec.ofNat 8 v, BitVec.ofNat 8 (v / 256), BitVec.ofNat 8 (v / 65536))

/-- The instruction the decoder reads from an instruction whose bits are `w`, numbered as spec/opcode_table.json
numbers them. -/
def decodeTableWord (nbits w : Nat) : Option Instr :=
  match tableBytes nbits w with
  | (b0, b1, b2) =>
    match decode [b0, b1, b2] with
    | .ok (i, _) => some i
    | .error _ => none

/-- The 3-bit operand code (10_state.md R33). -/
def Reg8.code : Reg8 → BitVec 3
  | .b => 0 | .c => 1 | .d => 2 | .e => 3 | .h => 4 | .l => 5 | .m => 6 | .a => 7

/-- The 2-bit pair code of LXI, INX, DCX, DAD (10_state.md R33). -/
def Pair.code : Pair → BitVec 2
  | .bc => 0 | .de => 1 | .hl => 2 | .sp => 3

/-- The 2-bit pair code of PUSH and POP (10_state.md R33). -/
def StackPair.code : StackPair → BitVec 2
  | .bc => 0 | .de => 1 | .hl => 2 | .psw => 3

/-- The 1-bit pair code of LDAX and STAX (10_state.md R33). -/
def IndexPair.code : IndexPair → BitVec 1
  | .bc => 0 | .de => 1

/-- The 3-bit condition code (45_branch.md R200). -/
def Cond.code : Cond → BitVec 3
  | .nz => 0 | .z => 1 | .nc => 2 | .c => 3 | .po => 4 | .pe => 5 | .p => 6 | .m => 7

/-- The 3-bit ALU operation code (30_encoding.md R93). -/
def AluOp.code : AluOp → BitVec 3
  | .add => 0 | .adc => 1 | .sub => 2 | .sbb => 3 | .ana => 4 | .xra => 5 | .ora => 6 | .cmp => 7

/-- `01dddsss` (30_encoding.md R96). -/
def movByte (dst src : Reg8) : Byte := 0b01#2 ++ dst.code ++ src.code

/-- `10aaasss`, the register and M forms of the ALU operations (30_encoding.md R93, R96). -/
def aluByte (o : AluOp) (src : Reg8) : Byte := 0b10#2 ++ o.code ++ src.code

/-- `11aaa110`, the immediate forms of the ALU operations (30_encoding.md R93, R96). -/
def aluImmByte (o : AluOp) : Byte := 0b11#2 ++ o.code ++ 0b110#3

/-- `00ddd` and the three low bits that tell INR 100, DCR 101 and MVI 110 apart (30_encoding.md R96). -/
def regByte (low : BitVec 3) (r : Reg8) : Byte := 0b00#2 ++ r.code ++ low

/-- `00pp` and the four low bits that tell LXI 0001, INX 0011, DAD 1001 and DCX 1011 apart (30_encoding.md R96). -/
def pairByte (low : BitVec 4) (rp : Pair) : Byte := 0b00#2 ++ rp.code ++ low

/-- `000p` and the four low bits that tell STAX 0010 and LDAX 1010 apart (30_encoding.md R96). -/
def indexByte (low : BitVec 4) (rp : IndexPair) : Byte := 0b000#3 ++ rp.code ++ low

/-- `11pp` and the four low bits that tell POP 0001 and PUSH 0101 apart (30_encoding.md R96). -/
def stackByte (low : BitVec 4) (rp : StackPair) : Byte := 0b11#2 ++ rp.code ++ low

/-- `11ccc` and the three low bits that tell R 000, J 010 and C 100 apart (30_encoding.md R96). -/
def condByte (low : BitVec 3) (ccc : Cond) : Byte := 0b11#2 ++ ccc.code ++ low

/-- `11nnn111` (30_encoding.md R96). -/
def rstByte (n : BitVec 3) : Byte := 0b11#2 ++ n ++ 0b111#3

/-- Format I1 (30_encoding.md R92). -/
def enc1 (op : Byte) : List Byte := [op]

/-- Format I2: the opcode, then `d8` (30_encoding.md R92). -/
def enc2 (op d8 : Byte) : List Byte := [op, d8]

/-- Format I3: the opcode, then `d16` low byte first (30_encoding.md R92, R94). -/
def enc3 (op : Byte) (d16 : Word) : List Byte := [op, loByte d16, hiByte d16]

/-- The bytes of an instruction, written from the patterns of 30_encoding.md R96. -/
def encode : Instr → List Byte
  | .nop => enc1 0x00#8
  | .lxiB d16 => enc3 (pairByte 0b0001#4 .bc) d16
  | .staxB => enc1 (indexByte 0b0010#4 .bc)
  | .inxB => enc1 (pairByte 0b0011#4 .bc)
  | .inrB => enc1 (regByte 0b100#3 .b)
  | .dcrB => enc1 (regByte 0b101#3 .b)
  | .mviB d8 => enc2 (regByte 0b110#3 .b) d8
  | .rlc => enc1 0x07#8
  | .unsupported op => enc1 op
  | .dadB => enc1 (pairByte 0b1001#4 .bc)
  | .ldaxB => enc1 (indexByte 0b1010#4 .bc)
  | .dcxB => enc1 (pairByte 0b1011#4 .bc)
  | .inrC => enc1 (regByte 0b100#3 .c)
  | .dcrC => enc1 (regByte 0b101#3 .c)
  | .mviC d8 => enc2 (regByte 0b110#3 .c) d8
  | .rrc => enc1 0x0F#8
  | .lxiD d16 => enc3 (pairByte 0b0001#4 .de) d16
  | .staxD => enc1 (indexByte 0b0010#4 .de)
  | .inxD => enc1 (pairByte 0b0011#4 .de)
  | .inrD => enc1 (regByte 0b100#3 .d)
  | .dcrD => enc1 (regByte 0b101#3 .d)
  | .mviD d8 => enc2 (regByte 0b110#3 .d) d8
  | .ral => enc1 0x17#8
  | .dadD => enc1 (pairByte 0b1001#4 .de)
  | .ldaxD => enc1 (indexByte 0b1010#4 .de)
  | .dcxD => enc1 (pairByte 0b1011#4 .de)
  | .inrE => enc1 (regByte 0b100#3 .e)
  | .dcrE => enc1 (regByte 0b101#3 .e)
  | .mviE d8 => enc2 (regByte 0b110#3 .e) d8
  | .rar => enc1 0x1F#8
  | .lxiH d16 => enc3 (pairByte 0b0001#4 .hl) d16
  | .shld d16 => enc3 0x22#8 d16
  | .inxH => enc1 (pairByte 0b0011#4 .hl)
  | .inrH => enc1 (regByte 0b100#3 .h)
  | .dcrH => enc1 (regByte 0b101#3 .h)
  | .mviH d8 => enc2 (regByte 0b110#3 .h) d8
  | .unsupportedDAA => enc1 0x27#8
  | .dadH => enc1 (pairByte 0b1001#4 .hl)
  | .lhld d16 => enc3 0x2A#8 d16
  | .dcxH => enc1 (pairByte 0b1011#4 .hl)
  | .inrL => enc1 (regByte 0b100#3 .l)
  | .dcrL => enc1 (regByte 0b101#3 .l)
  | .mviL d8 => enc2 (regByte 0b110#3 .l) d8
  | .cma => enc1 0x2F#8
  | .lxiSP d16 => enc3 (pairByte 0b0001#4 .sp) d16
  | .sta d16 => enc3 0x32#8 d16
  | .inxSP => enc1 (pairByte 0b0011#4 .sp)
  | .inrM => enc1 (regByte 0b100#3 .m)
  | .dcrM => enc1 (regByte 0b101#3 .m)
  | .mviM d8 => enc2 (regByte 0b110#3 .m) d8
  | .stc => enc1 0x37#8
  | .dadSP => enc1 (pairByte 0b1001#4 .sp)
  | .lda d16 => enc3 0x3A#8 d16
  | .dcxSP => enc1 (pairByte 0b1011#4 .sp)
  | .inrA => enc1 (regByte 0b100#3 .a)
  | .dcrA => enc1 (regByte 0b101#3 .a)
  | .mviA d8 => enc2 (regByte 0b110#3 .a) d8
  | .cmc => enc1 0x3F#8
  | .movBB => enc1 (movByte .b .b)
  | .movBC => enc1 (movByte .b .c)
  | .movBD => enc1 (movByte .b .d)
  | .movBE => enc1 (movByte .b .e)
  | .movBH => enc1 (movByte .b .h)
  | .movBL => enc1 (movByte .b .l)
  | .movBM => enc1 (movByte .b .m)
  | .movBA => enc1 (movByte .b .a)
  | .movCB => enc1 (movByte .c .b)
  | .movCC => enc1 (movByte .c .c)
  | .movCD => enc1 (movByte .c .d)
  | .movCE => enc1 (movByte .c .e)
  | .movCH => enc1 (movByte .c .h)
  | .movCL => enc1 (movByte .c .l)
  | .movCM => enc1 (movByte .c .m)
  | .movCA => enc1 (movByte .c .a)
  | .movDB => enc1 (movByte .d .b)
  | .movDC => enc1 (movByte .d .c)
  | .movDD => enc1 (movByte .d .d)
  | .movDE => enc1 (movByte .d .e)
  | .movDH => enc1 (movByte .d .h)
  | .movDL => enc1 (movByte .d .l)
  | .movDM => enc1 (movByte .d .m)
  | .movDA => enc1 (movByte .d .a)
  | .movEB => enc1 (movByte .e .b)
  | .movEC => enc1 (movByte .e .c)
  | .movED => enc1 (movByte .e .d)
  | .movEE => enc1 (movByte .e .e)
  | .movEH => enc1 (movByte .e .h)
  | .movEL => enc1 (movByte .e .l)
  | .movEM => enc1 (movByte .e .m)
  | .movEA => enc1 (movByte .e .a)
  | .movHB => enc1 (movByte .h .b)
  | .movHC => enc1 (movByte .h .c)
  | .movHD => enc1 (movByte .h .d)
  | .movHE => enc1 (movByte .h .e)
  | .movHH => enc1 (movByte .h .h)
  | .movHL => enc1 (movByte .h .l)
  | .movHM => enc1 (movByte .h .m)
  | .movHA => enc1 (movByte .h .a)
  | .movLB => enc1 (movByte .l .b)
  | .movLC => enc1 (movByte .l .c)
  | .movLD => enc1 (movByte .l .d)
  | .movLE => enc1 (movByte .l .e)
  | .movLH => enc1 (movByte .l .h)
  | .movLL => enc1 (movByte .l .l)
  | .movLM => enc1 (movByte .l .m)
  | .movLA => enc1 (movByte .l .a)
  | .movMB => enc1 (movByte .m .b)
  | .movMC => enc1 (movByte .m .c)
  | .movMD => enc1 (movByte .m .d)
  | .movME => enc1 (movByte .m .e)
  | .movMH => enc1 (movByte .m .h)
  | .movML => enc1 (movByte .m .l)
  | .hlt => enc1 0x76#8
  | .movMA => enc1 (movByte .m .a)
  | .movAB => enc1 (movByte .a .b)
  | .movAC => enc1 (movByte .a .c)
  | .movAD => enc1 (movByte .a .d)
  | .movAE => enc1 (movByte .a .e)
  | .movAH => enc1 (movByte .a .h)
  | .movAL => enc1 (movByte .a .l)
  | .movAM => enc1 (movByte .a .m)
  | .movAA => enc1 (movByte .a .a)
  | .addB => enc1 (aluByte .add .b)
  | .addC => enc1 (aluByte .add .c)
  | .addD => enc1 (aluByte .add .d)
  | .addE => enc1 (aluByte .add .e)
  | .addH => enc1 (aluByte .add .h)
  | .addL => enc1 (aluByte .add .l)
  | .addM => enc1 (aluByte .add .m)
  | .addA => enc1 (aluByte .add .a)
  | .adcB => enc1 (aluByte .adc .b)
  | .adcC => enc1 (aluByte .adc .c)
  | .adcD => enc1 (aluByte .adc .d)
  | .adcE => enc1 (aluByte .adc .e)
  | .adcH => enc1 (aluByte .adc .h)
  | .adcL => enc1 (aluByte .adc .l)
  | .adcM => enc1 (aluByte .adc .m)
  | .adcA => enc1 (aluByte .adc .a)
  | .subB => enc1 (aluByte .sub .b)
  | .subC => enc1 (aluByte .sub .c)
  | .subD => enc1 (aluByte .sub .d)
  | .subE => enc1 (aluByte .sub .e)
  | .subH => enc1 (aluByte .sub .h)
  | .subL => enc1 (aluByte .sub .l)
  | .subM => enc1 (aluByte .sub .m)
  | .subA => enc1 (aluByte .sub .a)
  | .sbbB => enc1 (aluByte .sbb .b)
  | .sbbC => enc1 (aluByte .sbb .c)
  | .sbbD => enc1 (aluByte .sbb .d)
  | .sbbE => enc1 (aluByte .sbb .e)
  | .sbbH => enc1 (aluByte .sbb .h)
  | .sbbL => enc1 (aluByte .sbb .l)
  | .sbbM => enc1 (aluByte .sbb .m)
  | .sbbA => enc1 (aluByte .sbb .a)
  | .anaB => enc1 (aluByte .ana .b)
  | .anaC => enc1 (aluByte .ana .c)
  | .anaD => enc1 (aluByte .ana .d)
  | .anaE => enc1 (aluByte .ana .e)
  | .anaH => enc1 (aluByte .ana .h)
  | .anaL => enc1 (aluByte .ana .l)
  | .anaM => enc1 (aluByte .ana .m)
  | .anaA => enc1 (aluByte .ana .a)
  | .xraB => enc1 (aluByte .xra .b)
  | .xraC => enc1 (aluByte .xra .c)
  | .xraD => enc1 (aluByte .xra .d)
  | .xraE => enc1 (aluByte .xra .e)
  | .xraH => enc1 (aluByte .xra .h)
  | .xraL => enc1 (aluByte .xra .l)
  | .xraM => enc1 (aluByte .xra .m)
  | .xraA => enc1 (aluByte .xra .a)
  | .oraB => enc1 (aluByte .ora .b)
  | .oraC => enc1 (aluByte .ora .c)
  | .oraD => enc1 (aluByte .ora .d)
  | .oraE => enc1 (aluByte .ora .e)
  | .oraH => enc1 (aluByte .ora .h)
  | .oraL => enc1 (aluByte .ora .l)
  | .oraM => enc1 (aluByte .ora .m)
  | .oraA => enc1 (aluByte .ora .a)
  | .cmpB => enc1 (aluByte .cmp .b)
  | .cmpC => enc1 (aluByte .cmp .c)
  | .cmpD => enc1 (aluByte .cmp .d)
  | .cmpE => enc1 (aluByte .cmp .e)
  | .cmpH => enc1 (aluByte .cmp .h)
  | .cmpL => enc1 (aluByte .cmp .l)
  | .cmpM => enc1 (aluByte .cmp .m)
  | .cmpA => enc1 (aluByte .cmp .a)
  | .rnz => enc1 (condByte 0b000#3 .nz)
  | .popB => enc1 (stackByte 0b0001#4 .bc)
  | .jnz d16 => enc3 (condByte 0b010#3 .nz) d16
  | .jmp d16 => enc3 0xC3#8 d16
  | .cnz d16 => enc3 (condByte 0b100#3 .nz) d16
  | .pushB => enc1 (stackByte 0b0101#4 .bc)
  | .adi d8 => enc2 (aluImmByte .add) d8
  | .rst0 => enc1 (rstByte 0#3)
  | .rz => enc1 (condByte 0b000#3 .z)
  | .ret => enc1 0xC9#8
  | .jz d16 => enc3 (condByte 0b010#3 .z) d16
  | .cz d16 => enc3 (condByte 0b100#3 .z) d16
  | .call d16 => enc3 0xCD#8 d16
  | .aci d8 => enc2 (aluImmByte .adc) d8
  | .rst1 => enc1 (rstByte 1#3)
  | .rnc => enc1 (condByte 0b000#3 .nc)
  | .popD => enc1 (stackByte 0b0001#4 .de)
  | .jnc d16 => enc3 (condByte 0b010#3 .nc) d16
  | .outPort d8 => enc2 0xD3#8 d8
  | .cnc d16 => enc3 (condByte 0b100#3 .nc) d16
  | .pushD => enc1 (stackByte 0b0101#4 .de)
  | .sui d8 => enc2 (aluImmByte .sub) d8
  | .rst2 => enc1 (rstByte 2#3)
  | .rc => enc1 (condByte 0b000#3 .c)
  | .jc d16 => enc3 (condByte 0b010#3 .c) d16
  | .inPort d8 => enc2 0xDB#8 d8
  | .cc d16 => enc3 (condByte 0b100#3 .c) d16
  | .sbi d8 => enc2 (aluImmByte .sbb) d8
  | .rst3 => enc1 (rstByte 3#3)
  | .rpo => enc1 (condByte 0b000#3 .po)
  | .popH => enc1 (stackByte 0b0001#4 .hl)
  | .jpo d16 => enc3 (condByte 0b010#3 .po) d16
  | .xthl => enc1 0xE3#8
  | .cpo d16 => enc3 (condByte 0b100#3 .po) d16
  | .pushH => enc1 (stackByte 0b0101#4 .hl)
  | .ani d8 => enc2 (aluImmByte .ana) d8
  | .rst4 => enc1 (rstByte 4#3)
  | .rpe => enc1 (condByte 0b000#3 .pe)
  | .pchl => enc1 0xE9#8
  | .jpe d16 => enc3 (condByte 0b010#3 .pe) d16
  | .xchg => enc1 0xEB#8
  | .cpe d16 => enc3 (condByte 0b100#3 .pe) d16
  | .xri d8 => enc2 (aluImmByte .xra) d8
  | .rst5 => enc1 (rstByte 5#3)
  | .rp => enc1 (condByte 0b000#3 .p)
  | .popPSW => enc1 (stackByte 0b0001#4 .psw)
  | .jp d16 => enc3 (condByte 0b010#3 .p) d16
  | .di => enc1 0xF3#8
  | .cp d16 => enc3 (condByte 0b100#3 .p) d16
  | .pushPSW => enc1 (stackByte 0b0101#4 .psw)
  | .ori d8 => enc2 (aluImmByte .ora) d8
  | .rst6 => enc1 (rstByte 6#3)
  | .rm => enc1 (condByte 0b000#3 .m)
  | .sphl => enc1 0xF9#8
  | .jm d16 => enc3 (condByte 0b010#3 .m) d16
  | .ei => enc1 0xFB#8
  | .cm d16 => enc3 (condByte 0b100#3 .m) d16
  | .cpi d8 => enc2 (aluImmByte .cmp) d8
  | .rst7 => enc1 (rstByte 7#3)

end Sys2Proof
end

