-- ==== Sys2Proof/Config.lean ====
section
/-! DEFINITION. The named parameters of 00_scope.md R5: what an implementation fixes and the one free input. -/

namespace Sys2Proof

/-- `PORT_IN(p, k)`: the byte an IN from port `p` (1 or 2) returns at the `k`-th port read of the run
(46_io.md R215, 60_exceptions.md R249). A FREE VALUE: nothing constrains it, it may differ at every read (log 1). -/
opaque Config.portIn (p : Byte) (k : Nat) : Byte

/-- `ENTRY` in production mode (70_reset_and_hazards.md R261). `State.launch` takes any other entry as an argument. -/
def Config.entry : Word := 0x0000#16

/-- The values of `IRQ_MODEL` (00_scope.md R5, 60_exceptions.md R235, R236). -/
inductive Config.IrqModel where
  | none
  | hostRst
  deriving DecidableEq, Repr

/-- `IRQ_MODEL` of this hardware: no interrupt is modelled (60_exceptions.md R235). -/
def Config.irqModel : Config.IrqModel := .none

/-- The type of `CYCLES(op, taken)`, an OPEN parameter of what a step reports (70_reset_and_hazards.md R270).
A function given to the report as an argument; it is no part of the state. -/
abbrev Config.CycleTable := Byte → Bool → Nat

/-- The one constraint on `CYCLES` (70_reset_and_hazards.md R270, read with `<=`): a conditional instruction
never costs more when its condition fails. -/
def Config.CycleTable.Admissible (cycles : Config.CycleTable) : Prop :=
  ∀ op : Byte, cycles op false ≤ cycles op true

end Sys2Proof
end

