-- ==== Sys2Proof/Machine/State.lean ====
section
/-! DEFINITION. The state of the machine as plain data (10_state.md R30 to R53, 60_exceptions.md R245), its faults and
refusals, and the state after reset. -/

namespace Sys2Proof.Machine

/-- The five independent condition codes (10_state.md R39). F is a derived view of them (R41, R47). -/
structure Flags where
  /-- Z: the 8-bit result is 0. -/
  z : Bool
  /-- S: bit 7 of the result. -/
  s : Bool
  /-- P: the result has an even number of 1 bits. -/
  p : Bool
  /-- C: the carry or borrow, as each instruction defines it. -/
  c : Bool
  /-- AC: the carry out of bit 3, as each instruction defines it. -/
  ac : Bool
  deriving DecidableEq, Repr

/-- The run state (10_state.md R48). -/
inductive RunState where
  /-- Steps fetch and execute. -/
  | running
  /-- After HLT: the normal, terminal end. -/
  | halted
  /-- After UnsupportedOpcode: terminal, never a good end. -/
  | faulted
  deriving DecidableEq, Repr

/-- Memory: the bytes that are not 0x00, as (address, byte) with addresses rising; every other address reads 0x00
(20_memory.md R60, 10_state.md R52; log 4). The canonical form is `Memory.wf`. -/
abbrev Memory := List Host.Cell

/-- The whole state of CORE and of the Ports collaborator (10_state.md, 60_exceptions.md R245). -/
structure State where
  /-- Register A, the accumulator (10_state.md R30). -/
  a : Byte
  /-- Register B. -/
  b : Byte
  /-- Register C. -/
  c : Byte
  /-- Register D. -/
  d : Byte
  /-- Register E. -/
  e : Byte
  /-- Register H. -/
  h : Byte
  /-- Register L. -/
  l : Byte
  /-- The five flags (10_state.md R39). -/
  fl : Flags
  /-- The program counter (10_state.md R36). -/
  pc : Word
  /-- The stack pointer (10_state.md R38). -/
  sp : Word
  /-- The interrupt-enable latch (10_state.md R46). -/
  inte : Bool
  /-- The run state (10_state.md R48). -/
  run : RunState
  /-- The 65536 bytes of memory (20_memory.md R60). -/
  mem : Memory
  /-- The device's 16-bit shift register (60_exceptions.md R245). -/
  shiftReg : Word
  /-- The device's 3-bit shift amount (60_exceptions.md R245). -/
  shiftAmount : BitVec 3
  /-- The model's own field: how many port reads the run has made, the index `k` of `PORT_IN(p, k)`
  (46_io.md R215; log 1). No instruction and no statement depends on its value. -/
  portReads : Nat
  deriving DecidableEq, Repr

/-- Why a step stops. -/
inductive Fault where
  /-- The one exception of the hardware, reported again by every step taken in `Faulted` (30_encoding.md R91,
  60_exceptions.md R230): the address and the byte of the unsupported opcode. Raised by `step` alone, in the state that
  the faulting step left (`exec` takes the exception as a next state; log 3). Safe: the machine is stopped. -/
  | unsupportedOpcode (addr : Word) (op : Byte)
  deriving DecidableEq, Repr

/-- Why a step has no meaning. -/
inductive Refusal where
  /-- An instruction that has no meaning in this model yet, by its mnemonic. Raised by no arm: every instruction has its
  meaning. Safe. -/
  | notModelled (mnemonic : String)
  deriving DecidableEq, Repr

/-- What a step answers. -/
abbrev Out := Host.Outcome State Fault Refusal

/-- All five flags 0 (10_state.md R52). -/
def Flags.reset : Flags := { z := false, s := false, p := false, c := false, ac := false }

/-- The state after creation, before the loader runs (10_state.md R52), with PC at the production entry. -/
def State.reset : State where
  a := 0x00#8
  b := 0x00#8
  c := 0x00#8
  d := 0x00#8
  e := 0x00#8
  h := 0x00#8
  l := 0x00#8
  fl := Flags.reset
  pc := Config.entry
  sp := 0x0000#16
  inte := false
  run := .running
  mem := []
  shiftReg := 0x0000#16
  shiftAmount := 0#3
  portReads := 0

end Sys2Proof.Machine
end

