-- ==== Sys2Proof/Machine/Ops.lean ====
section
/-! DEFINITION. The shared operations over memory, PC, stack, ports and run state; taking the one exception; the loader;
the optional host interrupt; fetching an instruction. Instructions are written over these and never touch a cell themselves. -/

namespace Sys2Proof.Machine

/-! ### Memory as a list of cells -/

/-- The canonical form below address `hi` and at or above `lo`: addresses strictly rising, no entry 0x00. -/
def Memory.wfFrom (lo : Nat) : Memory → Bool
  | [] => true
  | (k, v) :: rest => decide (lo ≤ k) && decide (k < 65536) && (v != 0x00#8) && Memory.wfFrom (k + 1) rest

/-- The canonical form: addresses strictly rising and below 65536, no entry equal to what an unlisted address reads as. -/
def Memory.wf (m : Memory) : Bool := Memory.wfFrom 0 m

/-- The byte at an address; an unlisted address reads 0x00 (10_state.md R52). -/
def Memory.read : Memory → Nat → Byte
  | [], _ => 0x00#8
  | (k, v) :: rest, addr => if k = addr then v else Memory.read rest addr

/-- Drop the entry of an address. -/
def Memory.erase : Memory → Nat → Memory
  | [], _ => []
  | (k, v) :: rest, addr => if k = addr then Memory.erase rest addr else (k, v) :: Memory.erase rest addr

/-- Put an entry before the first one with a larger address. -/
def Memory.insert : Memory → Nat → Byte → Memory
  | [], addr, v => [(addr, v)]
  | (k, w) :: rest, addr, v => if addr < k then (addr, v) :: (k, w) :: rest else (k, w) :: Memory.insert rest addr v

/-- Set the byte at an address, keeping the canonical form. -/
def Memory.write (m : Memory) (addr : Nat) (v : Byte) : Memory :=
  if v = 0x00#8 then m.erase addr else (m.erase addr).insert addr v

/-! ### Memory accesses of the core -/

/-- `MemRead(addr, 1)` (20_memory.md R62). -/
def State.read8 (s : State) (addr : Word) : Byte := s.mem.read addr.toNat

/-- `MemRead(addr, 2)`: low byte at `addr`, high byte at `addr + 1`, wrapping (20_memory.md R62). -/
def State.read16 (s : State) (addr : Word) : Word := joinBytes (s.read8 (addr + 1)) (s.read8 addr)

/-- `MemWrite(addr, 1, v)` (20_memory.md R63). -/
def State.write8 (s : State) (addr : Word) (v : Byte) : State := { s with mem := s.mem.write addr.toNat v }

/-- `MemWrite(addr, 2, v)`: low byte at `addr`, then high byte at `addr + 1`, wrapping (20_memory.md R63). -/
def State.write16 (s : State) (addr : Word) (v : Word) : State :=
  (s.write8 addr (loByte v)).write8 (addr + 1) (hiByte v)

/-! ### Single-field updates -/

/-- `pc <- target` (10_state.md R37). -/
def State.setPc (s : State) (target : Word) : State := { s with pc := target }

/-- `sp <- v` (10_state.md R38). -/
def State.setSp (s : State) (v : Word) : State := { s with sp := v }

/-- Write all five flags. -/
def State.setFl (s : State) (fl : Flags) : State := { s with fl := fl }

/-- Write the accumulator. -/
def State.setA (s : State) (v : Byte) : State := { s with a := v }

/-- Write the interrupt-enable latch (10_state.md R46). -/
def State.setInte (s : State) (v : Bool) : State := { s with inte := v }

/-- Write the run state (10_state.md R48). -/
def State.setRun (s : State) (v : RunState) : State := { s with run := v }

/-! ### The program counter -/

/-- `next`, the address after an instruction of `len` bytes at PC (10_state.md R37). -/
def State.nextPc (s : State) (len : Nat) : Word := s.pc + BitVec.ofNat 16 len

/-- `pc <- next` for an instruction of `len` bytes that has not written PC (10_state.md R37). -/
def State.advance (s : State) (len : Nat) : State := s.setPc (s.nextPc len)

/-! ### The stack -/

/-- `Push16(v)`: high byte at `sp - 1`, low byte at `sp - 2`, SP down by 2 (20_memory.md R66). -/
def State.push16 (s : State) (v : Word) : State :=
  ((s.write8 (s.sp - 1) (hiByte v)).write8 (s.sp - 2) (loByte v)).setSp (s.sp - 2)

/-- The value `Pop16()` returns: low byte at `sp`, high byte at `sp + 1` (20_memory.md R67). -/
def State.top16 (s : State) : Word := joinBytes (s.read8 (s.sp + 1)) (s.read8 s.sp)

/-- The effect of `Pop16()` on the state: SP up by 2 (20_memory.md R67). -/
def State.drop16 (s : State) : State := s.setSp (s.sp + 2)

/-! ### Ports -/

/-- `(shiftReg >> (8 - shiftAmount)) & 0xFF`, what port 3 reads as (60_exceptions.md R248). -/
def State.shiftResult (s : State) : Byte := (s.shiftReg >>> (8 - s.shiftAmount.toNat)).setWidth 8

/-- `PortRead(p)`, the byte (46_io.md R215, 60_exceptions.md R248, R249). -/
def State.portRead (s : State) (p : Byte) : Byte :=
  if p = 3#8 then s.shiftResult
  else if p = 1#8 ∨ p = 2#8 then Config.portIn p s.portReads
  else 0x00#8

/-- `PortRead(p)`, its effect: the run has made one more port read, and nothing else changes (46_io.md R215; log 1). -/
def State.countPortRead (s : State) : State := { s with portReads := s.portReads + 1 }

/-- `PortWrite(p, v)` (46_io.md R216, 60_exceptions.md R246, R247, R249). -/
def State.portWrite (s : State) (p v : Byte) : State :=
  if p = 4#8 then { s with shiftReg := (v.setWidth 16 <<< 8) ||| (s.shiftReg >>> 8) }
  else if p = 2#8 then { s with shiftAmount := v.setWidth 3 }
  else s

/-! ### The one exception, and the steps of a stopped machine -/

/-- `raise UnsupportedOpcode`: `run <- Faulted` and nothing else; PC keeps the address of the opcode
(60_exceptions.md R230, R233). There is no return from it (R234). The record goes to the host: `State.stepReport`. -/
def State.raiseUnsupported (s : State) : State := s.setRun .faulted

/-- A step taken in Halted: no state change at all (30_encoding.md R90, R91). -/
def haltedStep (s : State) : Out := .next s

/-- A step taken in Faulted: no state change, and the fault is reported again (30_encoding.md R90, R91): PC still holds
the address of the unsupported opcode (60_exceptions.md R230; log 3). -/
def faultedStep (s : State) : Out := .fault (.unsupportedOpcode s.pc (s.read8 s.pc))

/-! ### The loader and the launch state -/

/-- `loadImage(state, bytes, offset)`: byte i to `(offset + i) mod 65536`, in order (70_reset_and_hazards.md R262). -/
def State.loadImage (s : State) : List Byte → Word → State
  | [], _ => s
  | v :: rest, offset => State.loadImage (s.write8 offset v) rest (offset + 1)

/-- Load every `(offset, bytes)` pair of `IMAGE` in order (10_state.md R53). -/
def State.loadAll (s : State) : List (Word × List Byte) → State
  | [] => s
  | (offset, bytes) :: rest => State.loadAll (s.loadImage bytes offset) rest

/-- The state at the first step: reset, then `IMAGE` loaded, and PC at `ENTRY` (10_state.md R53; log 5). -/
def State.launch (entry : Word) (image : List (Word × List Byte)) : State :=
  (State.reset.loadAll image).setPc entry

/-! ### The optional host interrupt -/

/-- `Interrupt(n)`, which a host may perform between two steps only if `IRQ_MODEL = host_rst` (60_exceptions.md R236);
with `IRQ_MODEL = none`, this hardware's value, there is no such event (R235). `step` never calls it (log 7). -/
def State.hostInterrupt (model : Config.IrqModel) (n : Fin 8) (s : State) : State :=
  match model with
  | .none => s
  | .hostRst =>
    if s.run = .running ∧ s.inte = true then
      ((s.setInte false).push16 s.pc).setPc (BitVec.ofNat 16 (8 * n.val))
    else s

/-! ### Fetch -/

/-- The instruction at PC: the opcode byte and the two bytes after it, wrapping (30_encoding.md R90, R92, R94). The model
reads all three always; a read has no effect (20_memory.md R64; log 2). -/
def State.fetch (s : State) : Instr :=
  decodeAt (s.read8 s.pc) (s.read8 (s.pc + 1)) (s.read8 (s.pc + 2))

end Sys2Proof.Machine
end

