-- ==== Sys2Proof/Machine/Flags.lean ====
section
/-! DEFINITION. Every flag computation of the spec: parity, Z S P, the two ALU helpers, the logical flag effect,
increment and decrement, the flag byte F, the conditions, the 16-bit carry and the rotates. -/

namespace Sys2Proof.Machine

/-- `Parity8(v)`: true iff the number of 1 bits is even (10_state.md R43). -/
def parity8 (v : Byte) : Bool :=
  !(v.getLsbD 0 ^^ v.getLsbD 1 ^^ v.getLsbD 2 ^^ v.getLsbD 3 ^^ v.getLsbD 4 ^^ v.getLsbD 5 ^^ v.getLsbD 6 ^^ v.getLsbD 7)

/-- `SetZSP(v)`: Z, S, P from an 8-bit result, C and AC kept (10_state.md R44). -/
def Flags.setZSP (fl : Flags) (v : Byte) : Flags :=
  { fl with z := decide (v = 0x00#8), s := v.getLsbD 7, p := parity8 v }

/-- The low four bits of a byte, as a number. -/
def lowNibble (v : Byte) : Nat := v.toNat % 16

/-- `Add8(a, v, cin)`: the result and all five flags (41_arithmetic.md R148). -/
def add8 (a v : Byte) (cin : Bool) : Byte × Flags :=
  let t := a.toNat + v.toNat + cin.toNat
  let res := BitVec.ofNat 8 t
  (res, { z := decide (res = 0x00#8), s := res.getLsbD 7, p := parity8 res,
          c := decide (t > 0xFF),
          ac := decide (lowNibble a + lowNibble v + cin.toNat > 0xF) })

/-- `Sub8(a, v, bin)`: the result and all five flags; C is the borrow (41_arithmetic.md R149). -/
def sub8 (a v : Byte) (bin : Bool) : Byte × Flags :=
  let t : Int := (a.toNat : Int) - (v.toNat : Int) - (bin.toNat : Int)
  let res := BitVec.ofInt 8 t
  (res, { z := decide (res = 0x00#8), s := res.getLsbD 7, p := parity8 res,
          c := decide (t < 0),
          ac := decide (lowNibble a ≥ lowNibble v + bin.toNat) })

/-- `Logic8(res)`: C and AC to 0, Z S P from the result (42_logical.md R173). -/
def logic8 (res : Byte) : Byte × Flags :=
  (res, { z := decide (res = 0x00#8), s := res.getLsbD 7, p := parity8 res, c := false, ac := false })

/-- One ALU operation on A and a second operand: the new A and the new flags (41_arithmetic.md R140 to R143,
42_logical.md R165 to R168; CMP keeps A). -/
def aluResult (op : AluOp) (a v : Byte) (fl : Flags) : Byte × Flags :=
  match op with
  | .add => add8 a v false
  | .adc => add8 a v fl.c
  | .sub => sub8 a v false
  | .sbb => sub8 a v fl.c
  | .ana => logic8 (a &&& v)
  | .xra => logic8 (a ^^^ v)
  | .ora => logic8 (a ||| v)
  | .cmp => (a, (sub8 a v false).2)

/-- INR: the result, and Z S P AC; C kept (41_arithmetic.md R150). -/
def inr8 (v : Byte) (fl : Flags) : Byte × Flags :=
  let res := v + 1
  (res, { fl.setZSP res with ac := decide (lowNibble v = 0xF) })

/-- DCR: the result, and Z S P AC; C kept (41_arithmetic.md R151). -/
def dcr8 (v : Byte) (fl : Flags) : Byte × Flags :=
  let res := v - 1
  (res, { fl.setZSP res with ac := decide (lowNibble v ≠ 0) })

/-- DAD: the 16-bit sum, and C the carry out of bit 15; the other flags kept (41_arithmetic.md R152). -/
def dad16 (hl v : Word) (fl : Flags) : Word × Flags :=
  let t := hl.toNat + v.toNat
  (BitVec.ofNat 16 t, { fl with c := decide (t > 0xFFFF) })

/-- RLC (43_rotate_and_carry.md R180). -/
def rlc8 (a : Byte) (fl : Flags) : Byte × Flags :=
  ((a <<< 1) ||| (BitVec.ofBool (a.getLsbD 7)).setWidth 8, { fl with c := a.getLsbD 7 })

/-- RRC (43_rotate_and_carry.md R181). -/
def rrc8 (a : Byte) (fl : Flags) : Byte × Flags :=
  ((a >>> 1) ||| ((BitVec.ofBool (a.getLsbD 0)).setWidth 8 <<< 7), { fl with c := a.getLsbD 0 })

/-- RAL: the carry before the instruction goes in (43_rotate_and_carry.md R182). -/
def ral8 (a : Byte) (fl : Flags) : Byte × Flags :=
  ((a <<< 1) ||| (BitVec.ofBool fl.c).setWidth 8, { fl with c := a.getLsbD 7 })

/-- RAR: the carry before the instruction goes in (43_rotate_and_carry.md R183). -/
def rar8 (a : Byte) (fl : Flags) : Byte × Flags :=
  ((a >>> 1) ||| ((BitVec.ofBool fl.c).setWidth 8 <<< 7), { fl with c := a.getLsbD 0 })

/-- `PackF()`: the flag byte `SZ0A0P1C` (10_state.md R41). -/
def Flags.pack (fl : Flags) : Byte :=
  BitVec.ofNat 8 (fl.s.toNat * 128 + fl.z.toNat * 64 + fl.ac.toNat * 16 + fl.p.toNat * 4 + 1 * 2 + fl.c.toNat * 1)

/-- `UnpackF(b)`: bits 1, 3 and 5 are ignored (10_state.md R42). -/
def unpackF (f : Byte) : Flags :=
  { c := f.getLsbD 0, p := f.getLsbD 2, ac := f.getLsbD 4, z := f.getLsbD 6, s := f.getLsbD 7 }

/-- `Cond(ccc)` (45_branch.md R200). -/
def Flags.cond (fl : Flags) : Cond → Bool
  | .nz => !fl.z
  | .z => fl.z
  | .nc => !fl.c
  | .c => fl.c
  | .po => !fl.p
  | .pe => fl.p
  | .p => !fl.s
  | .m => fl.s

end Sys2Proof.Machine
end

