-- ==== Sys2Proof/Machine/Operands.lean ====
section
/-! DEFINITION. The operand forms: the 8-bit operands with M, the register pairs, and PSW. -/

namespace Sys2Proof.Machine

/-- HL, the pair that M goes through (10_state.md R31, R32). -/
def State.hl (s : State) : Word := joinBytes s.h s.l

/-- `Reg8(code)`: a register, or for M the byte at HL (10_state.md R34). -/
def State.reg8 (s : State) : Reg8 → Byte
  | .b => s.b
  | .c => s.c
  | .d => s.d
  | .e => s.e
  | .h => s.h
  | .l => s.l
  | .m => s.read8 s.hl
  | .a => s.a

/-- `SetReg8(code, v)`: a register, or for M the byte at HL (10_state.md R34). -/
def State.setReg8 (s : State) (r : Reg8) (v : Byte) : State :=
  match r with
  | .b => { s with b := v }
  | .c => { s with c := v }
  | .d => { s with d := v }
  | .e => { s with e := v }
  | .h => { s with h := v }
  | .l => { s with l := v }
  | .m => s.write8 s.hl v
  | .a => { s with a := v }

/-- `Pair(pp)` (10_state.md R35). -/
def State.pair (s : State) : Pair → Word
  | .bc => joinBytes s.b s.c
  | .de => joinBytes s.d s.e
  | .hl => joinBytes s.h s.l
  | .sp => s.sp

/-- `SetPair(pp, v)` (10_state.md R35). -/
def State.setPair (s : State) (rp : Pair) (v : Word) : State :=
  match rp with
  | .bc => { s with b := hiByte v, c := loByte v }
  | .de => { s with d := hiByte v, e := loByte v }
  | .hl => { s with h := hiByte v, l := loByte v }
  | .sp => { s with sp := v }

/-- The address pair of LDAX and STAX (40_data_transfer.md R128, R129). -/
def State.indexPair (s : State) : IndexPair → Word
  | .bc => joinBytes s.b s.c
  | .de => joinBytes s.d s.e

/-- The value PUSH pushes; PSW is A:F (10_state.md R31, 44_stack.md R190, R191). -/
def State.stackPair (s : State) : StackPair → Word
  | .bc => joinBytes s.b s.c
  | .de => joinBytes s.d s.e
  | .hl => joinBytes s.h s.l
  | .psw => joinBytes s.a s.fl.pack

/-- What POP does with the popped value; for PSW the low byte is unpacked into the flags (44_stack.md R192, R193). -/
def State.setStackPair (s : State) (rp : StackPair) (v : Word) : State :=
  match rp with
  | .bc => { s with b := hiByte v, c := loByte v }
  | .de => { s with d := hiByte v, e := loByte v }
  | .hl => { s with h := hiByte v, l := loByte v }
  | .psw => { s with a := hiByte v, fl := unpackF (loByte v) }

end Sys2Proof.Machine
end

