-- ==== Sys2Proof/Machine/Alu.lean ====
section
/-! DEFINITION. What the eight ALU operations do to the state, shared by Arithmetic.lean and Logical.lean. -/

namespace Sys2Proof.Machine

/-- A and the flags from one ALU operation on A and `v` (41_arithmetic.md R140 to R147, 42_logical.md R165 to R172). -/
def State.alu (s : State) (op : AluOp) (v : Byte) : State :=
  (s.setA (aluResult op s.a v s.fl).1).setFl (aluResult op s.a v s.fl).2

/-- The register and M forms: one byte long. -/
def State.aluReg (s : State) (op : AluOp) (r : Reg8) : State := (s.alu op (s.reg8 r)).advance 1

/-- The immediate forms: two bytes long. -/
def State.aluImm (s : State) (op : AluOp) (d8 : Byte) : State := (s.alu op d8).advance 2

end Sys2Proof.Machine
end

