-- ==== Sys2Proof/Machine/Arithmetic.lean ====
section
/-! DEFINITION. Arithmetic instructions (41_arithmetic.md R140 to R155); DAA is unsupported (R156) and stands in Control.lean. -/

namespace Sys2Proof.Machine

/-- `INR r` and `INR M` (41_arithmetic.md R150). -/
def State.increment (s : State) (r : Reg8) : State :=
  ((s.setReg8 r (inr8 (s.reg8 r) s.fl).1).setFl (inr8 (s.reg8 r) s.fl).2).advance 1

/-- `DCR r` and `DCR M` (41_arithmetic.md R151). -/
def State.decrement (s : State) (r : Reg8) : State :=
  ((s.setReg8 r (dcr8 (s.reg8 r) s.fl).1).setFl (dcr8 (s.reg8 r) s.fl).2).advance 1

/-- `DAD rp` (41_arithmetic.md R152). -/
def State.addToHl (s : State) (rp : Pair) : State :=
  ((s.setPair .hl (dad16 (s.pair .hl) (s.pair rp) s.fl).1).setFl (dad16 (s.pair .hl) (s.pair rp) s.fl).2).advance 1

/-- `INX rp` (41_arithmetic.md R153). -/
def State.incrementPair (s : State) (rp : Pair) : State := (s.setPair rp (s.pair rp + 1)).advance 1

/-- `DCX rp` (41_arithmetic.md R154). -/
def State.decrementPair (s : State) (rp : Pair) : State := (s.setPair rp (s.pair rp - 1)).advance 1

/-- `INX B` (R153). -/
def execInxB (s : State) : Out := .next (s.incrementPair .bc)

/-- `INR B` (R150). -/
def execInrB (s : State) : Out := .next (s.increment .b)

/-- `DCR B` (R151). -/
def execDcrB (s : State) : Out := .next (s.decrement .b)

/-- `DAD B` (R152). -/
def execDadB (s : State) : Out := .next (s.addToHl .bc)

/-- `DCX B` (R154). -/
def execDcxB (s : State) : Out := .next (s.decrementPair .bc)

/-- `INR C` (R150). -/
def execInrC (s : State) : Out := .next (s.increment .c)

/-- `DCR C` (R151). -/
def execDcrC (s : State) : Out := .next (s.decrement .c)

/-- `INX D` (R153). -/
def execInxD (s : State) : Out := .next (s.incrementPair .de)

/-- `INR D` (R150). -/
def execInrD (s : State) : Out := .next (s.increment .d)

/-- `DCR D` (R151). -/
def execDcrD (s : State) : Out := .next (s.decrement .d)

/-- `DAD D` (R152). -/
def execDadD (s : State) : Out := .next (s.addToHl .de)

/-- `DCX D` (R154). -/
def execDcxD (s : State) : Out := .next (s.decrementPair .de)

/-- `INR E` (R150). -/
def execInrE (s : State) : Out := .next (s.increment .e)

/-- `DCR E` (R151). -/
def execDcrE (s : State) : Out := .next (s.decrement .e)

/-- `INX H` (R153). -/
def execInxH (s : State) : Out := .next (s.incrementPair .hl)

/-- `INR H` (R150). -/
def execInrH (s : State) : Out := .next (s.increment .h)

/-- `DCR H` (R151). -/
def execDcrH (s : State) : Out := .next (s.decrement .h)

/-- `DAD H` (R152). -/
def execDadH (s : State) : Out := .next (s.addToHl .hl)

/-- `DCX H` (R154). -/
def execDcxH (s : State) : Out := .next (s.decrementPair .hl)

/-- `INR L` (R150). -/
def execInrL (s : State) : Out := .next (s.increment .l)

/-- `DCR L` (R151). -/
def execDcrL (s : State) : Out := .next (s.decrement .l)

/-- `INX SP` (R153). -/
def execInxSP (s : State) : Out := .next (s.incrementPair .sp)

/-- `INR M` (R150). -/
def execInrM (s : State) : Out := .next (s.increment .m)

/-- `DCR M` (R151). -/
def execDcrM (s : State) : Out := .next (s.decrement .m)

/-- `DAD SP` (R152). -/
def execDadSP (s : State) : Out := .next (s.addToHl .sp)

/-- `DCX SP` (R154). -/
def execDcxSP (s : State) : Out := .next (s.decrementPair .sp)

/-- `INR A` (R150). -/
def execInrA (s : State) : Out := .next (s.increment .a)

/-- `DCR A` (R151). -/
def execDcrA (s : State) : Out := .next (s.decrement .a)

/-- `ADD B` (R140). -/
def execAddB (s : State) : Out := .next (s.aluReg .add .b)

/-- `ADD C` (R140). -/
def execAddC (s : State) : Out := .next (s.aluReg .add .c)

/-- `ADD D` (R140). -/
def execAddD (s : State) : Out := .next (s.aluReg .add .d)

/-- `ADD E` (R140). -/
def execAddE (s : State) : Out := .next (s.aluReg .add .e)

/-- `ADD H` (R140). -/
def execAddH (s : State) : Out := .next (s.aluReg .add .h)

/-- `ADD L` (R140). -/
def execAddL (s : State) : Out := .next (s.aluReg .add .l)

/-- `ADD M` (R140). -/
def execAddM (s : State) : Out := .next (s.aluReg .add .m)

/-- `ADD A` (R140). -/
def execAddA (s : State) : Out := .next (s.aluReg .add .a)

/-- `ADC B` (R141). -/
def execAdcB (s : State) : Out := .next (s.aluReg .adc .b)

/-- `ADC C` (R141). -/
def execAdcC (s : State) : Out := .next (s.aluReg .adc .c)

/-- `ADC D` (R141). -/
def execAdcD (s : State) : Out := .next (s.aluReg .adc .d)

/-- `ADC E` (R141). -/
def execAdcE (s : State) : Out := .next (s.aluReg .adc .e)

/-- `ADC H` (R141). -/
def execAdcH (s : State) : Out := .next (s.aluReg .adc .h)

/-- `ADC L` (R141). -/
def execAdcL (s : State) : Out := .next (s.aluReg .adc .l)

/-- `ADC M` (R141). -/
def execAdcM (s : State) : Out := .next (s.aluReg .adc .m)

/-- `ADC A` (R141). -/
def execAdcA (s : State) : Out := .next (s.aluReg .adc .a)

/-- `SUB B` (R142). -/
def execSubB (s : State) : Out := .next (s.aluReg .sub .b)

/-- `SUB C` (R142). -/
def execSubC (s : State) : Out := .next (s.aluReg .sub .c)

/-- `SUB D` (R142). -/
def execSubD (s : State) : Out := .next (s.aluReg .sub .d)

/-- `SUB E` (R142). -/
def execSubE (s : State) : Out := .next (s.aluReg .sub .e)

/-- `SUB H` (R142). -/
def execSubH (s : State) : Out := .next (s.aluReg .sub .h)

/-- `SUB L` (R142). -/
def execSubL (s : State) : Out := .next (s.aluReg .sub .l)

/-- `SUB M` (R142). -/
def execSubM (s : State) : Out := .next (s.aluReg .sub .m)

/-- `SUB A` (R142). -/
def execSubA (s : State) : Out := .next (s.aluReg .sub .a)

/-- `SBB B` (R143). -/
def execSbbB (s : State) : Out := .next (s.aluReg .sbb .b)

/-- `SBB C` (R143). -/
def execSbbC (s : State) : Out := .next (s.aluReg .sbb .c)

/-- `SBB D` (R143). -/
def execSbbD (s : State) : Out := .next (s.aluReg .sbb .d)

/-- `SBB E` (R143). -/
def execSbbE (s : State) : Out := .next (s.aluReg .sbb .e)

/-- `SBB H` (R143). -/
def execSbbH (s : State) : Out := .next (s.aluReg .sbb .h)

/-- `SBB L` (R143). -/
def execSbbL (s : State) : Out := .next (s.aluReg .sbb .l)

/-- `SBB M` (R143). -/
def execSbbM (s : State) : Out := .next (s.aluReg .sbb .m)

/-- `SBB A` (R143). -/
def execSbbA (s : State) : Out := .next (s.aluReg .sbb .a)

/-- `ADI d8` (R144). -/
def execAdi (d8 : Byte) (s : State) : Out := .next (s.aluImm .add d8)

/-- `ACI d8` (R145). -/
def execAci (d8 : Byte) (s : State) : Out := .next (s.aluImm .adc d8)

/-- `SUI d8` (R146). -/
def execSui (d8 : Byte) (s : State) : Out := .next (s.aluImm .sub d8)

/-- `SBI d8` (R147). -/
def execSbi (d8 : Byte) (s : State) : Out := .next (s.aluImm .sbb d8)

end Sys2Proof.Machine
end

