-- ==== Sys2Proof/Machine/Branch.lean ====
section
/-! DEFINITION. Branch, call, return and restart instructions (45_branch.md R200 to R212). Any target is legal (R212). -/

namespace Sys2Proof.Machine

/-- CALL and RST: push `next`, the address after an instruction of `len` bytes, and jump (45_branch.md R203, R210, R211). -/
def State.call (s : State) (len : Nat) (target : Word) : State := (s.push16 (s.nextPc len)).setPc target

/-- RET: pop PC (45_branch.md R205). -/
def State.return16 (s : State) : State := s.drop16.setPc s.top16

/-- `J<cond> a16` (45_branch.md R202). -/
def State.jumpIf (s : State) (taken : Bool) (a16 : Word) : State := if taken then s.setPc a16 else s.advance 3

/-- `C<cond> a16` (45_branch.md R204). -/
def State.callIf (s : State) (taken : Bool) (a16 : Word) : State := if taken then s.call 3 a16 else s.advance 3

/-- `R<cond>` (45_branch.md R206). -/
def State.returnIf (s : State) (taken : Bool) : State := if taken then s.return16 else s.advance 1

/-- `RNZ` (R206). -/
def execRnz (s : State) : Out := .next (s.returnIf (s.fl.cond .nz))

/-- `JNZ a16` (R202). -/
def execJnz (a16 : Word) (s : State) : Out := .next (s.jumpIf (s.fl.cond .nz) a16)

/-- `JMP a16` (R201). -/
def execJmp (a16 : Word) (s : State) : Out := .next (s.setPc a16)

/-- `CNZ a16` (R204). -/
def execCnz (a16 : Word) (s : State) : Out := .next (s.callIf (s.fl.cond .nz) a16)

/-- `RST 0` (R210). -/
def execRst0 (s : State) : Out := .next (s.call 1 0x0000#16)

/-- `RZ` (R206). -/
def execRz (s : State) : Out := .next (s.returnIf (s.fl.cond .z))

/-- `RET` (R205). -/
def execRet (s : State) : Out := .next s.return16

/-- `JZ a16` (R202). -/
def execJz (a16 : Word) (s : State) : Out := .next (s.jumpIf (s.fl.cond .z) a16)

/-- `CZ a16` (R204). -/
def execCz (a16 : Word) (s : State) : Out := .next (s.callIf (s.fl.cond .z) a16)

/-- `CALL a16` (R203). -/
def execCall (a16 : Word) (s : State) : Out := .next (s.call 3 a16)

/-- `RST 1` (R210). -/
def execRst1 (s : State) : Out := .next (s.call 1 0x0008#16)

/-- `RNC` (R206). -/
def execRnc (s : State) : Out := .next (s.returnIf (s.fl.cond .nc))

/-- `JNC a16` (R202). -/
def execJnc (a16 : Word) (s : State) : Out := .next (s.jumpIf (s.fl.cond .nc) a16)

/-- `CNC a16` (R204). -/
def execCnc (a16 : Word) (s : State) : Out := .next (s.callIf (s.fl.cond .nc) a16)

/-- `RST 2` (R210). -/
def execRst2 (s : State) : Out := .next (s.call 1 0x0010#16)

/-- `RC` (R206). -/
def execRc (s : State) : Out := .next (s.returnIf (s.fl.cond .c))

/-- `JC a16` (R202). -/
def execJc (a16 : Word) (s : State) : Out := .next (s.jumpIf (s.fl.cond .c) a16)

/-- `CC a16` (R204). -/
def execCc (a16 : Word) (s : State) : Out := .next (s.callIf (s.fl.cond .c) a16)

/-- `RST 3` (R210). -/
def execRst3 (s : State) : Out := .next (s.call 1 0x0018#16)

/-- `RPO` (R206). -/
def execRpo (s : State) : Out := .next (s.returnIf (s.fl.cond .po))

/-- `JPO a16` (R202). -/
def execJpo (a16 : Word) (s : State) : Out := .next (s.jumpIf (s.fl.cond .po) a16)

/-- `CPO a16` (R204). -/
def execCpo (a16 : Word) (s : State) : Out := .next (s.callIf (s.fl.cond .po) a16)

/-- `RST 4` (R210). -/
def execRst4 (s : State) : Out := .next (s.call 1 0x0020#16)

/-- `RPE` (R206). -/
def execRpe (s : State) : Out := .next (s.returnIf (s.fl.cond .pe))

/-- `PCHL` (R207). -/
def execPchl (s : State) : Out := .next (s.setPc s.hl)

/-- `JPE a16` (R202). -/
def execJpe (a16 : Word) (s : State) : Out := .next (s.jumpIf (s.fl.cond .pe) a16)

/-- `CPE a16` (R204). -/
def execCpe (a16 : Word) (s : State) : Out := .next (s.callIf (s.fl.cond .pe) a16)

/-- `RST 5` (R210). -/
def execRst5 (s : State) : Out := .next (s.call 1 0x0028#16)

/-- `RP` (R206). -/
def execRp (s : State) : Out := .next (s.returnIf (s.fl.cond .p))

/-- `JP a16` (R202). -/
def execJp (a16 : Word) (s : State) : Out := .next (s.jumpIf (s.fl.cond .p) a16)

/-- `CP a16` (R204). -/
def execCp (a16 : Word) (s : State) : Out := .next (s.callIf (s.fl.cond .p) a16)

/-- `RST 6` (R210). -/
def execRst6 (s : State) : Out := .next (s.call 1 0x0030#16)

/-- `RM` (R206). -/
def execRm (s : State) : Out := .next (s.returnIf (s.fl.cond .m))

/-- `JM a16` (R202). -/
def execJm (a16 : Word) (s : State) : Out := .next (s.jumpIf (s.fl.cond .m) a16)

/-- `CM a16` (R204). -/
def execCm (a16 : Word) (s : State) : Out := .next (s.callIf (s.fl.cond .m) a16)

/-- `RST 7` (R210). -/
def execRst7 (s : State) : Out := .next (s.call 1 0x0038#16)

end Sys2Proof.Machine
end

