-- ==== Sys2Proof/Machine/Control.lean ====
section
/-! DEFINITION. Control instructions (47_control.md R220 to R223), and the thirteen unsupported bytes (60_exceptions.md R230). -/

namespace Sys2Proof.Machine

/-- `NOP` (R220). -/
def execNop (s : State) : Out := .next (s.advance 1)

/-- `UNSUPPORTED` (R230). -/
def execUnsupported (_op : Byte) (s : State) : Out := .next s.raiseUnsupported

/-- `UNSUPPORTED (DAA)` (R230). -/
def execUnsupportedDAA (s : State) : Out := .next s.raiseUnsupported

/-- `HLT` (R221). -/
def execHlt (s : State) : Out := .next ((s.advance 1).setRun .halted)

/-- `DI` (R222). -/
def execDi (s : State) : Out := .next ((s.setInte false).advance 1)

/-- `EI` (R223). -/
def execEi (s : State) : Out := .next ((s.setInte true).advance 1)

end Sys2Proof.Machine
end

