-- ==== Sys2Proof/Machine/DataTransfer.lean ====
section
/-! DEFINITION. Data transfer instructions (40_data_transfer.md R120 to R133): no flag is read or written (R133). -/

namespace Sys2Proof.Machine

/-- `MOV d,s` in its three forms; an address H:L is taken before the write (40_data_transfer.md R120 to R122). -/
def State.movReg (s : State) (dst src : Reg8) : State := (s.setReg8 dst (s.reg8 src)).advance 1

/-- `MVI r,d8` and `MVI M,d8` (40_data_transfer.md R123, R124). -/
def State.moveImm (s : State) (dst : Reg8) (d8 : Byte) : State := (s.setReg8 dst d8).advance 2

/-- `LXI rp,d16` (40_data_transfer.md R125). -/
def State.loadPair (s : State) (rp : Pair) (d16 : Word) : State := (s.setPair rp d16).advance 3

/-- LDA and LDAX: A from a memory byte (40_data_transfer.md R126, R128). -/
def State.loadA (s : State) (addr : Word) (len : Nat) : State := (s.setA (s.read8 addr)).advance len

/-- STA and STAX: A to a memory byte (40_data_transfer.md R127, R129). -/
def State.storeA (s : State) (addr : Word) (len : Nat) : State := (s.write8 addr s.a).advance len

/-- LHLD: L from `a16`, H from `a16 + 1` (40_data_transfer.md R130). -/
def State.loadHl (s : State) (a16 : Word) : State := (s.setPair .hl (s.read16 a16)).advance 3

/-- SHLD: L to `a16`, then H to `a16 + 1` (40_data_transfer.md R131). -/
def State.storeHl (s : State) (a16 : Word) : State := (s.write16 a16 (s.pair .hl)).advance 3

/-- XCHG: HL and DE change places (40_data_transfer.md R132). -/
def State.exchangeHlDe (s : State) : State := ((s.setPair .hl (s.pair .de)).setPair .de (s.pair .hl)).advance 1

/-- `LXI B,d16` (R125). -/
def execLxiB (d16 : Word) (s : State) : Out := .next (s.loadPair .bc d16)

/-- `STAX B` (R129). -/
def execStaxB (s : State) : Out := .next (s.storeA (s.indexPair .bc) 1)

/-- `MVI B,d8` (R123). -/
def execMviB (d8 : Byte) (s : State) : Out := .next (s.moveImm .b d8)

/-- `LDAX B` (R128). -/
def execLdaxB (s : State) : Out := .next (s.loadA (s.indexPair .bc) 1)

/-- `MVI C,d8` (R123). -/
def execMviC (d8 : Byte) (s : State) : Out := .next (s.moveImm .c d8)

/-- `LXI D,d16` (R125). -/
def execLxiD (d16 : Word) (s : State) : Out := .next (s.loadPair .de d16)

/-- `STAX D` (R129). -/
def execStaxD (s : State) : Out := .next (s.storeA (s.indexPair .de) 1)

/-- `MVI D,d8` (R123). -/
def execMviD (d8 : Byte) (s : State) : Out := .next (s.moveImm .d d8)

/-- `LDAX D` (R128). -/
def execLdaxD (s : State) : Out := .next (s.loadA (s.indexPair .de) 1)

/-- `MVI E,d8` (R123). -/
def execMviE (d8 : Byte) (s : State) : Out := .next (s.moveImm .e d8)

/-- `LXI H,d16` (R125). -/
def execLxiH (d16 : Word) (s : State) : Out := .next (s.loadPair .hl d16)

/-- `SHLD a16` (R131). -/
def execShld (a16 : Word) (s : State) : Out := .next (s.storeHl a16)

/-- `MVI H,d8` (R123). -/
def execMviH (d8 : Byte) (s : State) : Out := .next (s.moveImm .h d8)

/-- `LHLD a16` (R130). -/
def execLhld (a16 : Word) (s : State) : Out := .next (s.loadHl a16)

/-- `MVI L,d8` (R123). -/
def execMviL (d8 : Byte) (s : State) : Out := .next (s.moveImm .l d8)

/-- `LXI SP,d16` (R125). -/
def execLxiSP (d16 : Word) (s : State) : Out := .next (s.loadPair .sp d16)

/-- `STA a16` (R127). -/
def execSta (a16 : Word) (s : State) : Out := .next (s.storeA a16 3)

/-- `MVI M,d8` (R124). -/
def execMviM (d8 : Byte) (s : State) : Out := .next (s.moveImm .m d8)

/-- `LDA a16` (R126). -/
def execLda (a16 : Word) (s : State) : Out := .next (s.loadA a16 3)

/-- `MVI A,d8` (R123). -/
def execMviA (d8 : Byte) (s : State) : Out := .next (s.moveImm .a d8)

/-- `MOV B,B` (R120). -/
def execMovBB (s : State) : Out := .next (s.movReg .b .b)

/-- `MOV B,C` (R120). -/
def execMovBC (s : State) : Out := .next (s.movReg .b .c)

/-- `MOV B,D` (R120). -/
def execMovBD (s : State) : Out := .next (s.movReg .b .d)

/-- `MOV B,E` (R120). -/
def execMovBE (s : State) : Out := .next (s.movReg .b .e)

/-- `MOV B,H` (R120). -/
def execMovBH (s : State) : Out := .next (s.movReg .b .h)

/-- `MOV B,L` (R120). -/
def execMovBL (s : State) : Out := .next (s.movReg .b .l)

/-- `MOV B,M` (R121). -/
def execMovBM (s : State) : Out := .next (s.movReg .b .m)

/-- `MOV B,A` (R120). -/
def execMovBA (s : State) : Out := .next (s.movReg .b .a)

/-- `MOV C,B` (R120). -/
def execMovCB (s : State) : Out := .next (s.movReg .c .b)

/-- `MOV C,C` (R120). -/
def execMovCC (s : State) : Out := .next (s.movReg .c .c)

/-- `MOV C,D` (R120). -/
def execMovCD (s : State) : Out := .next (s.movReg .c .d)

/-- `MOV C,E` (R120). -/
def execMovCE (s : State) : Out := .next (s.movReg .c .e)

/-- `MOV C,H` (R120). -/
def execMovCH (s : State) : Out := .next (s.movReg .c .h)

/-- `MOV C,L` (R120). -/
def execMovCL (s : State) : Out := .next (s.movReg .c .l)

/-- `MOV C,M` (R121). -/
def execMovCM (s : State) : Out := .next (s.movReg .c .m)

/-- `MOV C,A` (R120). -/
def execMovCA (s : State) : Out := .next (s.movReg .c .a)

/-- `MOV D,B` (R120). -/
def execMovDB (s : State) : Out := .next (s.movReg .d .b)

/-- `MOV D,C` (R120). -/
def execMovDC (s : State) : Out := .next (s.movReg .d .c)

/-- `MOV D,D` (R120). -/
def execMovDD (s : State) : Out := .next (s.movReg .d .d)

/-- `MOV D,E` (R120). -/
def execMovDE (s : State) : Out := .next (s.movReg .d .e)

/-- `MOV D,H` (R120). -/
def execMovDH (s : State) : Out := .next (s.movReg .d .h)

/-- `MOV D,L` (R120). -/
def execMovDL (s : State) : Out := .next (s.movReg .d .l)

/-- `MOV D,M` (R121). -/
def execMovDM (s : State) : Out := .next (s.movReg .d .m)

/-- `MOV D,A` (R120). -/
def execMovDA (s : State) : Out := .next (s.movReg .d .a)

/-- `MOV E,B` (R120). -/
def execMovEB (s : State) : Out := .next (s.movReg .e .b)

/-- `MOV E,C` (R120). -/
def execMovEC (s : State) : Out := .next (s.movReg .e .c)

/-- `MOV E,D` (R120). -/
def execMovED (s : State) : Out := .next (s.movReg .e .d)

/-- `MOV E,E` (R120). -/
def execMovEE (s : State) : Out := .next (s.movReg .e .e)

/-- `MOV E,H` (R120). -/
def execMovEH (s : State) : Out := .next (s.movReg .e .h)

/-- `MOV E,L` (R120). -/
def execMovEL (s : State) : Out := .next (s.movReg .e .l)

/-- `MOV E,M` (R121). -/
def execMovEM (s : State) : Out := .next (s.movReg .e .m)

/-- `MOV E,A` (R120). -/
def execMovEA (s : State) : Out := .next (s.movReg .e .a)

/-- `MOV H,B` (R120). -/
def execMovHB (s : State) : Out := .next (s.movReg .h .b)

/-- `MOV H,C` (R120). -/
def execMovHC (s : State) : Out := .next (s.movReg .h .c)

/-- `MOV H,D` (R120). -/
def execMovHD (s : State) : Out := .next (s.movReg .h .d)

/-- `MOV H,E` (R120). -/
def execMovHE (s : State) : Out := .next (s.movReg .h .e)

/-- `MOV H,H` (R120). -/
def execMovHH (s : State) : Out := .next (s.movReg .h .h)

/-- `MOV H,L` (R120). -/
def execMovHL (s : State) : Out := .next (s.movReg .h .l)

/-- `MOV H,M` (R121). -/
def execMovHM (s : State) : Out := .next (s.movReg .h .m)

/-- `MOV H,A` (R120). -/
def execMovHA (s : State) : Out := .next (s.movReg .h .a)

/-- `MOV L,B` (R120). -/
def execMovLB (s : State) : Out := .next (s.movReg .l .b)

/-- `MOV L,C` (R120). -/
def execMovLC (s : State) : Out := .next (s.movReg .l .c)

/-- `MOV L,D` (R120). -/
def execMovLD (s : State) : Out := .next (s.movReg .l .d)

/-- `MOV L,E` (R120). -/
def execMovLE (s : State) : Out := .next (s.movReg .l .e)

/-- `MOV L,H` (R120). -/
def execMovLH (s : State) : Out := .next (s.movReg .l .h)

/-- `MOV L,L` (R120). -/
def execMovLL (s : State) : Out := .next (s.movReg .l .l)

/-- `MOV L,M` (R121). -/
def execMovLM (s : State) : Out := .next (s.movReg .l .m)

/-- `MOV L,A` (R120). -/
def execMovLA (s : State) : Out := .next (s.movReg .l .a)

/-- `MOV M,B` (R122). -/
def execMovMB (s : State) : Out := .next (s.movReg .m .b)

/-- `MOV M,C` (R122). -/
def execMovMC (s : State) : Out := .next (s.movReg .m .c)

/-- `MOV M,D` (R122). -/
def execMovMD (s : State) : Out := .next (s.movReg .m .d)

/-- `MOV M,E` (R122). -/
def execMovME (s : State) : Out := .next (s.movReg .m .e)

/-- `MOV M,H` (R122). -/
def execMovMH (s : State) : Out := .next (s.movReg .m .h)

/-- `MOV M,L` (R122). -/
def execMovML (s : State) : Out := .next (s.movReg .m .l)

/-- `MOV M,A` (R122). -/
def execMovMA (s : State) : Out := .next (s.movReg .m .a)

/-- `MOV A,B` (R120). -/
def execMovAB (s : State) : Out := .next (s.movReg .a .b)

/-- `MOV A,C` (R120). -/
def execMovAC (s : State) : Out := .next (s.movReg .a .c)

/-- `MOV A,D` (R120). -/
def execMovAD (s : State) : Out := .next (s.movReg .a .d)

/-- `MOV A,E` (R120). -/
def execMovAE (s : State) : Out := .next (s.movReg .a .e)

/-- `MOV A,H` (R120). -/
def execMovAH (s : State) : Out := .next (s.movReg .a .h)

/-- `MOV A,L` (R120). -/
def execMovAL (s : State) : Out := .next (s.movReg .a .l)

/-- `MOV A,M` (R121). -/
def execMovAM (s : State) : Out := .next (s.movReg .a .m)

/-- `MOV A,A` (R120). -/
def execMovAA (s : State) : Out := .next (s.movReg .a .a)

/-- `XCHG` (R132). -/
def execXchg (s : State) : Out := .next s.exchangeHlDe

end Sys2Proof.Machine
end

