-- ==== Sys2Proof/Machine/Io.lean ====
section
/-! DEFINITION. Input and output (46_io.md R217, R218). No flag, no memory (R215, R216). -/

namespace Sys2Proof.Machine

/-- IN: A from the port (46_io.md R217). -/
def State.input (s : State) (p : Byte) : State := (s.countPortRead.setA (s.portRead p)).advance 2

/-- OUT: A to the port (46_io.md R218). -/
def State.output (s : State) (p : Byte) : State := (s.portWrite p s.a).advance 2

/-- `OUT p` (R218). -/
def execOutPort (p : Byte) (s : State) : Out := .next (s.output p)

/-- `IN p` (R217). -/
def execInPort (p : Byte) (s : State) : Out := .next (s.input p)

end Sys2Proof.Machine
end

