-- ==== Sys2Proof/Machine/Logical.lean ====
section
/-! DEFINITION. Logical and compare instructions (42_logical.md R165 to R173). -/

namespace Sys2Proof.Machine

/-- `ANA B` (R165). -/
def execAnaB (s : State) : Out := .next (s.aluReg .ana .b)

/-- `ANA C` (R165). -/
def execAnaC (s : State) : Out := .next (s.aluReg .ana .c)

/-- `ANA D` (R165). -/
def execAnaD (s : State) : Out := .next (s.aluReg .ana .d)

/-- `ANA E` (R165). -/
def execAnaE (s : State) : Out := .next (s.aluReg .ana .e)

/-- `ANA H` (R165). -/
def execAnaH (s : State) : Out := .next (s.aluReg .ana .h)

/-- `ANA L` (R165). -/
def execAnaL (s : State) : Out := .next (s.aluReg .ana .l)

/-- `ANA M` (R165). -/
def execAnaM (s : State) : Out := .next (s.aluReg .ana .m)

/-- `ANA A` (R165). -/
def execAnaA (s : State) : Out := .next (s.aluReg .ana .a)

/-- `XRA B` (R166). -/
def execXraB (s : State) : Out := .next (s.aluReg .xra .b)

/-- `XRA C` (R166). -/
def execXraC (s : State) : Out := .next (s.aluReg .xra .c)

/-- `XRA D` (R166). -/
def execXraD (s : State) : Out := .next (s.aluReg .xra .d)

/-- `XRA E` (R166). -/
def execXraE (s : State) : Out := .next (s.aluReg .xra .e)

/-- `XRA H` (R166). -/
def execXraH (s : State) : Out := .next (s.aluReg .xra .h)

/-- `XRA L` (R166). -/
def execXraL (s : State) : Out := .next (s.aluReg .xra .l)

/-- `XRA M` (R166). -/
def execXraM (s : State) : Out := .next (s.aluReg .xra .m)

/-- `XRA A` (R166). -/
def execXraA (s : State) : Out := .next (s.aluReg .xra .a)

/-- `ORA B` (R167). -/
def execOraB (s : State) : Out := .next (s.aluReg .ora .b)

/-- `ORA C` (R167). -/
def execOraC (s : State) : Out := .next (s.aluReg .ora .c)

/-- `ORA D` (R167). -/
def execOraD (s : State) : Out := .next (s.aluReg .ora .d)

/-- `ORA E` (R167). -/
def execOraE (s : State) : Out := .next (s.aluReg .ora .e)

/-- `ORA H` (R167). -/
def execOraH (s : State) : Out := .next (s.aluReg .ora .h)

/-- `ORA L` (R167). -/
def execOraL (s : State) : Out := .next (s.aluReg .ora .l)

/-- `ORA M` (R167). -/
def execOraM (s : State) : Out := .next (s.aluReg .ora .m)

/-- `ORA A` (R167). -/
def execOraA (s : State) : Out := .next (s.aluReg .ora .a)

/-- `CMP B` (R168). -/
def execCmpB (s : State) : Out := .next (s.aluReg .cmp .b)

/-- `CMP C` (R168). -/
def execCmpC (s : State) : Out := .next (s.aluReg .cmp .c)

/-- `CMP D` (R168). -/
def execCmpD (s : State) : Out := .next (s.aluReg .cmp .d)

/-- `CMP E` (R168). -/
def execCmpE (s : State) : Out := .next (s.aluReg .cmp .e)

/-- `CMP H` (R168). -/
def execCmpH (s : State) : Out := .next (s.aluReg .cmp .h)

/-- `CMP L` (R168). -/
def execCmpL (s : State) : Out := .next (s.aluReg .cmp .l)

/-- `CMP M` (R168). -/
def execCmpM (s : State) : Out := .next (s.aluReg .cmp .m)

/-- `CMP A` (R168). -/
def execCmpA (s : State) : Out := .next (s.aluReg .cmp .a)

/-- `ANI d8` (R169). -/
def execAni (d8 : Byte) (s : State) : Out := .next (s.aluImm .ana d8)

/-- `XRI d8` (R170). -/
def execXri (d8 : Byte) (s : State) : Out := .next (s.aluImm .xra d8)

/-- `ORI d8` (R171). -/
def execOri (d8 : Byte) (s : State) : Out := .next (s.aluImm .ora d8)

/-- `CPI d8` (R172). -/
def execCpi (d8 : Byte) (s : State) : Out := .next (s.aluImm .cmp d8)

end Sys2Proof.Machine
end

