-- ==== Sys2Proof/Machine/Rotate.lean ====
section
/-! DEFINITION. Rotate, complement and carry instructions (43_rotate_and_carry.md R180 to R186). -/

namespace Sys2Proof.Machine

/-- A and the flags from a rotate of A (43_rotate_and_carry.md R180 to R183). -/
def State.rotate (s : State) (r : Byte × Flags) : State := ((s.setA r.1).setFl r.2).advance 1

/-- STC and CMC: C and no other flag (43_rotate_and_carry.md R185, R186). -/
def State.writeCarry (s : State) (v : Bool) : State := (s.setFl { s.fl with c := v }).advance 1

/-- `RLC` (R180). -/
def execRlc (s : State) : Out := .next (s.rotate (rlc8 s.a s.fl))

/-- `RRC` (R181). -/
def execRrc (s : State) : Out := .next (s.rotate (rrc8 s.a s.fl))

/-- `RAL` (R182). -/
def execRal (s : State) : Out := .next (s.rotate (ral8 s.a s.fl))

/-- `RAR` (R183). -/
def execRar (s : State) : Out := .next (s.rotate (rar8 s.a s.fl))

/-- `CMA` (R184). -/
def execCma (s : State) : Out := .next ((s.setA (~~~s.a)).advance 1)

/-- `STC` (R185). -/
def execStc (s : State) : Out := .next (s.writeCarry true)

/-- `CMC` (R186). -/
def execCmc (s : State) : Out := .next (s.writeCarry (!s.fl.c))

end Sys2Proof.Machine
end

