-- ==== Sys2Proof/Machine/Stack.lean ====
section
/-! DEFINITION. Stack instructions (44_stack.md R190 to R195). -/

namespace Sys2Proof.Machine

/-- `PUSH rp` and `PUSH PSW` (44_stack.md R190, R191). -/
def State.pushPair (s : State) (rp : StackPair) : State := (s.push16 (s.stackPair rp)).advance 1

/-- `POP rp` and `POP PSW` (44_stack.md R192, R193). -/
def State.popPair (s : State) (rp : StackPair) : State := (s.drop16.setStackPair rp s.top16).advance 1

/-- XTHL: both bytes at SP are read before either is written; SP stays (44_stack.md R194). -/
def State.exchangeHlTop (s : State) : State :=
  ((s.write16 s.sp (s.pair .hl)).setPair .hl (s.read16 s.sp)).advance 1

/-- `POP B` (R192). -/
def execPopB (s : State) : Out := .next (s.popPair .bc)

/-- `PUSH B` (R190). -/
def execPushB (s : State) : Out := .next (s.pushPair .bc)

/-- `POP D` (R192). -/
def execPopD (s : State) : Out := .next (s.popPair .de)

/-- `PUSH D` (R190). -/
def execPushD (s : State) : Out := .next (s.pushPair .de)

/-- `POP H` (R192). -/
def execPopH (s : State) : Out := .next (s.popPair .hl)

/-- `XTHL` (R194). -/
def execXthl (s : State) : Out := .next s.exchangeHlTop

/-- `PUSH H` (R190). -/
def execPushH (s : State) : Out := .next (s.pushPair .hl)

/-- `POP PSW` (R193). -/
def execPopPSW (s : State) : Out := .next (s.popPair .psw)

/-- `PUSH PSW` (R191). -/
def execPushPSW (s : State) : Out := .next (s.pushPair .psw)

/-- `SPHL` (R195). -/
def execSphl (s : State) : Out := .next ((s.setSp s.hl).advance 1)

end Sys2Proof.Machine
end

