-- ==== Sys2Proof/Machine/Step.lean ====
section
/-! DEFINITION. One step of the core (30_encoding.md R90, R91), and the placing of one instruction for the next step. -/

namespace Sys2Proof.Machine

/-- One step: the run state is looked at first; a running core fetches the instruction at PC and executes it
(30_encoding.md R90, 60_exceptions.md R232). -/
def step (s : State) : Host.Outcome State Fault Refusal :=
  match s.run with
  | .halted => haltedStep s
  | .faulted => faultedStep s
  | .running => exec s.fetch s

/-- `s` with the instruction whose bits are `w` at PC and the machine running, so that the next step runs it
(log 5). -/
def State.withFetchWord (s : State) (nbits w : Nat) : State :=
  match tableBytes nbits w with
  | (b0, b1, b2) => (s.loadImage [b0, b1, b2] s.pc).setRun .running

end Sys2Proof.Machine
end

