-- ==== Sys2Proof/Machine/Report.lean ====
section
/-! DEFINITION. What a step reports to the driver (30_encoding.md R90): the cycle count, Halted, or the fault record.
A function of the state the step is taken in; nothing in the machine depends on it (70_reset_and_hazards.md R270). -/

namespace Sys2Proof.Machine

/-- What one call of `step` returns (00_scope.md R12). -/
inductive Report where
  /-- The cycle count of the executed instruction. -/
  | cycles (n : Nat)
  /-- `Halted`. -/
  | halted
  /-- The fault, with the address and the byte of the unsupported opcode (60_exceptions.md R230). -/
  | unsupportedOpcode (addr : Word) (op : Byte)
  deriving DecidableEq, Repr

/-- The condition a 3-bit code stands for (45_branch.md R200). -/
def condOfCode (ccc : BitVec 3) : Cond :=
  match ccc.toNat with
  | 0 => .nz | 1 => .z | 2 => .nc | 3 => .c | 4 => .po | 5 => .pe | 6 => .p | _ => .m

/-- R, J and C with a condition: `11ccc000`, `11ccc010`, `11ccc100` (30_encoding.md R96). -/
def isConditional (op : Byte) : Bool :=
  (op &&& 0xC7#8) == 0xC0#8 || (op &&& 0xC7#8) == 0xC2#8 || (op &&& 0xC7#8) == 0xC4#8

/-- `taken` of `CYCLES(op, taken)`: whether the condition of a conditional instruction holds; true for every other
opcode, where it matters to nothing (30_encoding.md R90, 70_reset_and_hazards.md R270). -/
def takenAt (op : Byte) (fl : Flags) : Bool :=
  if isConditional op then fl.cond (condOfCode (op.extractLsb' 3 3)) else true

/-- What `step` reports when it is called in state `s` (30_encoding.md R90, R91; log 6). In Faulted PC still holds the
address of the opcode, so the same record is reported again (log 3). -/
def State.stepReport (cycles : Config.CycleTable) (s : State) : Report :=
  match s.run with
  | .halted => .halted
  | .faulted => .unsupportedOpcode s.pc (s.read8 s.pc)
  | .running =>
    match s.fetch with
    | .unsupported _ => .unsupportedOpcode s.pc (s.read8 s.pc)
    | .unsupportedDAA => .unsupportedOpcode s.pc (s.read8 s.pc)
    | .hlt => .halted
    | _ => .cycles (cycles (s.read8 s.pc) (takenAt (s.read8 s.pc) s.fl))

/-- Taken-path cycle counts of opcodes 00 to 0F; 0 where the byte is unsupported (70_reset_and_hazards.md R271). -/
def cycleRow0 : List Nat := [4, 10, 7, 5, 5, 5, 7, 4, 0, 10, 7, 5, 5, 5, 7, 4]

/-- Taken-path cycle counts of opcodes 10 to 1F; 0 where the byte is unsupported (70_reset_and_hazards.md R271). -/
def cycleRow1 : List Nat := [0, 10, 7, 5, 5, 5, 7, 4, 0, 10, 7, 5, 5, 5, 7, 4]

/-- Taken-path cycle counts of opcodes 20 to 2F; 0 where the byte is unsupported (70_reset_and_hazards.md R271). -/
def cycleRow2 : List Nat := [0, 10, 16, 5, 5, 5, 7, 0, 0, 10, 16, 5, 5, 5, 7, 4]

/-- Taken-path cycle counts of opcodes 30 to 3F; 0 where the byte is unsupported (70_reset_and_hazards.md R271). -/
def cycleRow3 : List Nat := [0, 10, 13, 5, 10, 10, 10, 4, 0, 10, 13, 5, 5, 5, 7, 4]

/-- Taken-path cycle counts of opcodes 40 to 4F; 0 where the byte is unsupported (70_reset_and_hazards.md R271). -/
def cycleRow4 : List Nat := [5, 5, 5, 5, 5, 5, 7, 5, 5, 5, 5, 5, 5, 5, 7, 5]

/-- Taken-path cycle counts of opcodes 50 to 5F; 0 where the byte is unsupported (70_reset_and_hazards.md R271). -/
def cycleRow5 : List Nat := [5, 5, 5, 5, 5, 5, 7, 5, 5, 5, 5, 5, 5, 5, 7, 5]

/-- Taken-path cycle counts of opcodes 60 to 6F; 0 where the byte is unsupported (70_reset_and_hazards.md R271). -/
def cycleRow6 : List Nat := [5, 5, 5, 5, 5, 5, 7, 5, 5, 5, 5, 5, 5, 5, 7, 5]

/-- Taken-path cycle counts of opcodes 70 to 7F; 0 where the byte is unsupported (70_reset_and_hazards.md R271). -/
def cycleRow7 : List Nat := [7, 7, 7, 7, 7, 7, 7, 7, 5, 5, 5, 5, 5, 5, 7, 5]

/-- Taken-path cycle counts of opcodes 80 to 8F; 0 where the byte is unsupported (70_reset_and_hazards.md R271). -/
def cycleRow8 : List Nat := [4, 4, 4, 4, 4, 4, 7, 4, 4, 4, 4, 4, 4, 4, 7, 4]

/-- Taken-path cycle counts of opcodes 90 to 9F; 0 where the byte is unsupported (70_reset_and_hazards.md R271). -/
def cycleRow9 : List Nat := [4, 4, 4, 4, 4, 4, 7, 4, 4, 4, 4, 4, 4, 4, 7, 4]

/-- Taken-path cycle counts of opcodes A0 to AF; 0 where the byte is unsupported (70_reset_and_hazards.md R271). -/
def cycleRowA : List Nat := [4, 4, 4, 4, 4, 4, 7, 4, 4, 4, 4, 4, 4, 4, 7, 4]

/-- Taken-path cycle counts of opcodes B0 to BF; 0 where the byte is unsupported (70_reset_and_hazards.md R271). -/
def cycleRowB : List Nat := [4, 4, 4, 4, 4, 4, 7, 4, 4, 4, 4, 4, 4, 4, 7, 4]

/-- Taken-path cycle counts of opcodes C0 to CF; 0 where the byte is unsupported (70_reset_and_hazards.md R271). -/
def cycleRowC : List Nat := [11, 10, 10, 10, 17, 11, 7, 11, 11, 10, 10, 0, 17, 17, 7, 11]

/-- Taken-path cycle counts of opcodes D0 to DF; 0 where the byte is unsupported (70_reset_and_hazards.md R271). -/
def cycleRowD : List Nat := [11, 10, 10, 10, 17, 11, 7, 11, 11, 0, 10, 10, 17, 0, 7, 11]

/-- Taken-path cycle counts of opcodes E0 to EF; 0 where the byte is unsupported (70_reset_and_hazards.md R271). -/
def cycleRowE : List Nat := [11, 10, 10, 18, 17, 11, 7, 11, 11, 5, 10, 4, 17, 0, 7, 11]

/-- Taken-path cycle counts of opcodes F0 to FF; 0 where the byte is unsupported (70_reset_and_hazards.md R271). -/
def cycleRowF : List Nat := [11, 10, 10, 4, 17, 11, 7, 11, 11, 5, 10, 4, 17, 0, 7, 11]

/-- The taken-path counts by the two hex digits of the opcode byte (70_reset_and_hazards.md R271). -/
def takenCycles (op : Byte) : Nat :=
  ([cycleRow0, cycleRow1, cycleRow2, cycleRow3, cycleRow4, cycleRow5, cycleRow6, cycleRow7,
    cycleRow8, cycleRow9, cycleRowA, cycleRowB, cycleRowC, cycleRowD, cycleRowE, cycleRowF].getD
      (op.toNat / 16) []).getD (op.toNat % 16) 0

/-- The default of `CYCLES` (70_reset_and_hazards.md R271): a conditional call or return not taken costs 6 less, a
conditional jump the same either way. -/
def defaultCycles : Config.CycleTable := fun op taken =>
  if !taken && ((op &&& 0xC7#8) == 0xC0#8 || (op &&& 0xC7#8) == 0xC4#8)
  then takenCycles op - 6 else takenCycles op

end Sys2Proof.Machine
end

