-- ==== Sys2Proof/Safety.lean ====
section
/-! DEFINITION. The terms claims are stated in: what a change of state leaves alone, the length table, the families of
instructions that whole-machine rules name, and how a run ends. -/

namespace Sys2Proof.Machine

/-- From `s` to `t` nothing changes but the registers of `regs`, the memory bytes of `addrs`, and perhaps the flags, SP
and PC, of which a statement speaks itself. -/
structure Frame (regs : List Reg8) (addrs : List Word) (s t : State) : Prop where
  regs : ∀ r : Reg8, r ≠ .m → r ∉ regs → t.reg8 r = s.reg8 r
  mem : ∀ addr : Word, addr ∉ addrs → t.read8 addr = s.read8 addr
  inte : t.inte = s.inte
  run : t.run = s.run
  shiftReg : t.shiftReg = s.shiftReg
  shiftAmount : t.shiftAmount = s.shiftAmount
  portReads : t.portReads = s.portReads

/-- The registers of a pair; SP is no 8-bit register. -/
def pairRegs : Pair → List Reg8
  | .bc => [.b, .c]
  | .de => [.d, .e]
  | .hl => [.h, .l]
  | .sp => []

/-- The registers POP writes. -/
def stackRegs : StackPair → List Reg8
  | .bc => [.b, .c]
  | .de => [.d, .e]
  | .hl => [.h, .l]
  | .psw => [.a]

/-- The registers an 8-bit destination names: none for M. -/
def destRegs (r : Reg8) : List Reg8 := if r = .m then [] else [r]

/-- The addresses an 8-bit destination stores to: HL for M. -/
def destAddrs (r : Reg8) (s : State) : List Word := if r = .m then [s.pair .hl] else []

/-- The thirteen unsupported opcode bytes (30_encoding.md R98). -/
def unsupportedBytes : List Byte := 0x27#8 :: undocumentedBytes

/-- The opcode bytes of length 3 (30_encoding.md R95). -/
def threeByteOpcodes : List Byte :=
  [0x01#8, 0x11#8, 0x21#8, 0x31#8, 0x22#8, 0x2A#8, 0x32#8, 0x3A#8, 0xC3#8,
   0xC2#8, 0xCA#8, 0xD2#8, 0xDA#8, 0xE2#8, 0xEA#8, 0xF2#8, 0xFA#8, 0xCD#8,
   0xC4#8, 0xCC#8, 0xD4#8, 0xDC#8, 0xE4#8, 0xEC#8, 0xF4#8, 0xFC#8]

/-- The opcode bytes of length 2 (30_encoding.md R95). -/
def twoByteOpcodes : List Byte :=
  [0x06#8, 0x0E#8, 0x16#8, 0x1E#8, 0x26#8, 0x2E#8, 0x36#8, 0x3E#8,
   0xC6#8, 0xCE#8, 0xD6#8, 0xDE#8, 0xE6#8, 0xEE#8, 0xF6#8, 0xFE#8, 0xD3#8, 0xDB#8]

/-- `Len(op)` (30_encoding.md R95); an unsupported byte has no length there and counts as the one byte that is
read (log 9). -/
def lengthTable (op : Byte) : Nat :=
  if threeByteOpcodes.contains op then 3 else if twoByteOpcodes.contains op then 2 else 1

/-- The instructions that can write another value than `next` to PC (10_state.md R37). -/
def IsTransfer (i : Instr) : Prop :=
  (∃ a16, i = .jmp a16) ∨ (∃ a16, i = .call a16) ∨ i = .ret ∨ i = .pchl ∨ (∃ n, i = .ofRst n) ∨
  (∃ cc a16, i = .ofJump cc a16) ∨ (∃ cc a16, i = .ofCall cc a16) ∨ (∃ cc, i = .ofReturn cc)

/-- The unsupported bytes as instructions: they raise the fault (60_exceptions.md R230). -/
def IsUnsupported (i : Instr) : Prop := (∃ op, i = .unsupported op) ∨ i = .unsupportedDAA

/-- The instructions that write SP (10_state.md R38). -/
def WritesSp (i : Instr) : Prop :=
  (∃ d16, i = .lxiSP d16) ∨ i = .inxSP ∨ i = .dcxSP ∨ i = .sphl ∨ (∃ rp, i = .ofPush rp) ∨ (∃ rp, i = .ofPop rp) ∨
  (∃ a16, i = .call a16) ∨ (∃ cc a16, i = .ofCall cc a16) ∨ i = .ret ∨ (∃ cc, i = .ofReturn cc) ∨ (∃ n, i = .ofRst n)

/-- The instructions that write Z, S, P and AC (10_state.md R40). -/
def WritesZspAc (i : Instr) : Prop :=
  (∃ op r, i = .ofAlu op r) ∨ (∃ op d8, i = .ofAluImm op d8) ∨ (∃ r, i = .ofInr r) ∨ (∃ r, i = .ofDcr r) ∨ i = .popPSW

/-- The instructions that write the C flag (10_state.md R40). -/
def WritesCarry (i : Instr) : Prop :=
  (∃ op r, i = .ofAlu op r) ∨ (∃ op d8, i = .ofAluImm op d8) ∨ (∃ rp, i = .ofDad rp) ∨
  i = .rlc ∨ i = .rrc ∨ i = .ral ∨ i = .rar ∨ i = .stc ∨ i = .cmc ∨ i = .popPSW

/-- The instructions that store to memory (20_memory.md R70). -/
def Stores (i : Instr) : Prop :=
  (∃ r, i = .ofMov .m r ∧ r ≠ .m) ∨ (∃ d8, i = .mviM d8) ∨ i = .inrM ∨ i = .dcrM ∨ (∃ a16, i = .sta a16) ∨
  (∃ rp, i = .ofStax rp) ∨ (∃ a16, i = .shld a16) ∨ (∃ rp, i = .ofPush rp) ∨ (∃ a16, i = .call a16) ∨
  (∃ cc a16, i = .ofCall cc a16) ∨ (∃ n, i = .ofRst n) ∨ i = .xthl

/-- What 40_data_transfer.md R133 says of one data transfer instruction `i` of `len` bytes whose destination is the
registers of `regs` and the bytes of `addrs s`: it changes its destination and PC, it never writes flags, `inte`, `run`
or (unless it is LXI SP) SP, and it never reads them: set to other values, they change nothing else. -/
def TransferLaw (i : Instr) (regs : List Reg8) (addrs : State → List Word) (len : Nat) : Prop :=
  ∀ s : State, ∃ t : State, exec i s = .next t ∧
    Frame regs (addrs s) s t ∧ t.fl = s.fl ∧ t.pc = s.pc + BitVec.ofNat 16 len ∧
    ((∃ d16, i = .lxiSP d16) ∨ t.sp = s.sp) ∧
    ∀ fl inte run sp, ∃ sp', exec i { s with fl := fl, inte := inte, run := run, sp := sp } =
      .next { t with fl := fl, inte := inte, run := run, sp := sp' } ∧
      ((∃ d16, i = .lxiSP d16) ∧ sp' = t.sp ∨ (∀ d16, i ≠ .lxiSP d16) ∧ sp' = sp)

/-- The run is over: the core is in a state no step leaves (10_state.md R48). -/
def State.ended (s : State) : Prop := s.run ≠ .running

/-- The normal end of a run (70_reset_and_hazards.md R265). -/
def State.endedWell (s : State) : Prop := s.run = .halted

/-- The end of a run that is never successful (70_reset_and_hazards.md R265). -/
def State.endedInFault (s : State) : Prop := s.run = .faulted

/-- A safe run of `k` steps: every step is taken and the core is not in Faulted after them. -/
def safeRun (k : Nat) (s : State) : Prop := ∃ t : State, Host.Core.run core k s = .next t ∧ ¬ t.endedInFault

end Sys2Proof.Machine
end

