-- ==== Sys2Proof/Certificates/Slice0/Obligations.lean ====
section
/-! DEFINITION. The statements for the provers. Each docstring says which rule or section of spec/ the statement
formalises; a choice of the spec's own (a decision D<n> of 92_eei_decisions.md) or of the model (a log entry) is named. -/

open Sys2Proof Sys2Proof.Machine

/-! ### Reset, launch and memory -/

/-- 10_state.md R52: the state after creation. The zero of `inte`, of the shift device and the reading of "registers" as
including SP and PC are the spec's decisions D8, D13, D15; `ENTRY` is the production value; `portReads` is the model's
own field (log 1) and is not spoken of. -/
def Obligations.ResetState : Prop :=
  (∀ r : Reg8, State.reset.reg8 r = 0x00#8) ∧ (∀ rp : Pair, State.reset.pair rp = 0x0000#16) ∧
  State.reset.fl = ⟨false, false, false, false, false⟩ ∧ State.reset.fl.pack = 0x02#8 ∧
  State.reset.pc = 0x0000#16 ∧ State.reset.sp = 0x0000#16 ∧ State.reset.inte = false ∧ State.reset.run = .running ∧
  (∀ addr : Word, State.reset.read8 addr = 0x00#8) ∧
  State.reset.shiftReg = 0x0000#16 ∧ State.reset.shiftAmount = 0#3

/-- The memory of the reset state is in the canonical form of log 4. -/
def Obligations.ResetMemoryIsCanonical : Prop := State.reset.mem.wf = true

/-- 70_reset_and_hazards.md R262, 10_state.md R53: loading one more byte at the end of an image writes that byte at
`offset + length` (wrapping) and leaves every other byte, loading nothing changes nothing, and only memory is written; the launch
state is the reset state with the pairs of `IMAGE` loaded in order and PC at `ENTRY`. -/
def Obligations.LoaderAndLaunchState : Prop :=
  (∀ (s : State) (offset : Word),
    s.loadImage [] offset = s ∧
    ∀ (bytes : List Byte) (v : Byte),
      s.loadImage (bytes ++ [v]) offset = { s with mem := (s.loadImage (bytes ++ [v]) offset).mem } ∧
      ∀ addr : Word, (s.loadImage (bytes ++ [v]) offset).read8 addr =
        if addr = offset + BitVec.ofNat 16 bytes.length then v else (s.loadImage bytes offset).read8 addr) ∧
  (∀ (entry : Word) (image : List (Word × List Byte)) (offset : Word) (bytes : List Byte),
    State.launch entry [] = { State.reset with pc := entry } ∧
    State.launch entry (image ++ [(offset, bytes)]) = (State.launch entry image).loadImage bytes offset ∧
    State.launch entry image = { State.reset with pc := entry, mem := (State.launch entry image).mem })

/-- 20_memory.md R62, R63: a byte written is read back, every other byte and everything else is unchanged, in every
state, the memory in canonical form or not. -/
def Obligations.WrittenByteIsRead : Prop :=
  ∀ (s : State) (a b : Word) (v : Byte),
    (s.write8 a v).read8 b = (if b = a then v else s.read8 b) ∧
    s.write8 a v = { s with mem := (s.write8 a v).mem }

/-- 20_memory.md R62, R63, R68 (the wrap at 0xFFFF is the spec's decision D18): a two-byte access is little-endian, writes
`a` and `a + 1` and no other byte, and reads back the value written. -/
def Obligations.WordAccessIsLittleEndian : Prop :=
  ∀ (s : State) (a b : Word) (v : Word),
    (s.write16 a v).read16 a = v ∧
    (s.write16 a v).read8 a = BitVec.ofNat 8 v.toNat ∧
    (s.write16 a v).read8 (a + 1) = BitVec.ofNat 8 (v.toNat / 256) ∧
    (b ≠ a → b ≠ a + 1 → (s.write16 a v).read8 b = s.read8 b) ∧
    (s.read16 a).toNat = (s.read8 a).toNat + 256 * (s.read8 (a + 1)).toNat ∧
    s.write16 a v = { s with mem := (s.write16 a v).mem }

/-- The canonical form is one form (log 4): two canonical memories that read alike at every address are equal; so, with
20_memory.md R64, writing the byte an address already holds changes nothing at all. -/
def Obligations.CanonicalMemoryIsUnique : Prop :=
  (∀ m m' : Memory, m.wf = true → m'.wf = true → (∀ addr : Word, m.read addr.toNat = m'.read addr.toNat) → m = m') ∧
  (∀ (s : State) (addr : Word), s.mem.wf = true → s.write8 addr (s.read8 addr) = s)

/-- Every step, every load and every host interrupt keeps the canonical form of memory (log 4), from every state. -/
def Obligations.EveryStepKeepsMemoryCanonical : Prop :=
  (∀ s t : State, s.mem.wf = true → step s = .next t → t.mem.wf = true) ∧
  (∀ (s : State) (bytes : List Byte) (offset : Word), s.mem.wf = true → (s.loadImage bytes offset).mem.wf = true) ∧
  (∀ (s : State) (model : Config.IrqModel) (n : Fin 8), s.mem.wf = true → (s.hostInterrupt model n).mem.wf = true)

/-! ### Encoding -/

/-- 30_encoding.md R92 to R97 (the opcode map is the spec's decision D5): decoding the bytes of a well-formed instruction,
whatever follows them, gives the instruction back with every operand, and what follows. That an unsupported byte is encoded as
one byte is the model's choice (log 9). -/
def Obligations.DecodeOfEncodeIsTheInstruction : Prop :=
  ∀ (i : Instr) (rest : List Byte), i.wf = true → decode (encode i ++ rest) = .ok (i, rest)

/-- 30_encoding.md R92 to R98 (the opcode map is the spec's decision D5): what the decoder reads is well formed, and encoding it
gives back exactly the bytes read. That an unsupported byte is read as one byte is the model's choice (log 9). -/
def Obligations.EncodeOfDecodeIsTheBytes : Prop :=
  ∀ (bytes rest : List Byte) (i : Instr), decode bytes = .ok (i, rest) → i.wf = true ∧ encode i ++ rest = bytes

/-- Words written out from the encoding lines of the instruction rules, one or more for each family (the spec's decision D5).
The last two, 0xDD and 0x27, have no encoding line and no length in the spec (30_encoding.md R95, R98, the spec's decisions D2,
D3): that each decodes as an instruction of one byte is the model's choice (log 9). -/
def Obligations.SpecWordsDecodeAsStated : Prop :=
  decode [0x41#8] = .ok (.movBC, []) ∧ decode [0x7E#8] = .ok (.movAM, []) ∧ decode [0x77#8] = .ok (.movMA, []) ∧
  decode [0x31#8, 0x00#8, 0x24#8] = .ok (.lxiSP 0x2400#16, []) ∧ decode [0x3A#8, 0xC0#8, 0x20#8] = .ok (.lda 0x20C0#16, []) ∧
  decode [0x82#8] = .ok (.addD, []) ∧ decode [0xDE#8, 0x01#8] = .ok (.sbi 0x01#8, []) ∧ decode [0x35#8] = .ok (.dcrM, []) ∧
  decode [0xA8#8] = .ok (.xraB, []) ∧ decode [0xFE#8, 0x40#8] = .ok (.cpi 0x40#8, []) ∧ decode [0x1F#8] = .ok (.rar, []) ∧
  decode [0xF5#8] = .ok (.pushPSW, []) ∧ decode [0xE3#8] = .ok (.xthl, []) ∧
  decode [0xC2#8, 0x05#8, 0x00#8] = .ok (.jnz 0x0005#16, []) ∧ decode [0xCD#8, 0x00#8, 0x10#8] = .ok (.call 0x1000#16, []) ∧
  decode [0xCF#8] = .ok (.rst1, []) ∧ decode [0xDB#8, 0x03#8] = .ok (.inPort 0x03#8, []) ∧
  decode [0x76#8] = .ok (.hlt, []) ∧ decode [0xDD#8] = .ok (.unsupported 0xDD#8, []) ∧ decode [0x27#8] = .ok (.unsupportedDAA, [])

/-- 30_encoding.md R98 (the spec's decisions D2, D3): the bytes decoded as unsupported are the thirteen and no others. -/
def Obligations.UnsupportedBytesAreTheThirteen : Prop :=
  ∀ op b1 b2 : Byte, IsUnsupported (decodeAt op b1 b2) ↔
    op.toNat ∈ [0x08, 0x10, 0x18, 0x20, 0x27, 0x28, 0x30, 0x38, 0xCB, 0xD9, 0xDD, 0xED, 0xFD]

/-- 30_encoding.md R92, R95 (general knowledge there): the opcode byte alone decides how many bytes are decoded; with fewer
bytes than that there is no instruction. That an unsupported byte counts as one byte is the model's choice (log 9). -/
def Obligations.OpcodeByteDecidesLength : Prop :=
  ∀ (op : Byte) (rest : List Byte),
    (rest.length + 1 < lengthTable op → decode (op :: rest) = .error (.truncated op)) ∧
    (lengthTable op ≤ rest.length + 1 →
      ∃ i, decode (op :: rest) = .ok (i, rest.drop (lengthTable op - 1)) ∧ (encode i).length = lengthTable op)

/-! ### The step -/

/-- 30_encoding.md R90, R94 (the wrap is the spec's decision D17): when the bytes at PC decode to an instruction, a step of
the running core is exactly `exec` of it; nothing is done around it. -/
def Obligations.StepRunsTheDecodedInstruction : Prop :=
  ∀ (s : State) (i : Instr) (rest : List Byte), s.run = .running →
    decode [s.read8 s.pc, s.read8 (s.pc + 1), s.read8 (s.pc + 2)] = .ok (i, rest) → step s = exec i s

/-- 30_encoding.md R91 (the spec's decision D11): a step in Halted changes nothing, however many are taken; a step in Faulted
changes nothing and reports the fault again. That the step in Faulted is the outcome `fault`, with the record read at PC, is
the model's choice (log 3). -/
def Obligations.StoppedMachineNeverMoves : Prop :=
  (∀ s : State, s.endedWell → ∀ k : Nat, Host.Core.run core k s = .next s) ∧
  (∀ s : State, s.endedInFault → step s = .fault (.unsupportedOpcode s.pc (s.read8 s.pc)))

/-- 60_exceptions.md R230 (the spec's decision D10): a step of the running core at an unsupported byte changes the run state to
Faulted and nothing else; the report is the address and the byte, and the next step reports them again (log 3). -/
def Obligations.UnsupportedOpcodeStepFaults : Prop :=
  ∀ (s : State) (cycles : Config.CycleTable), s.run = .running → s.read8 s.pc ∈ unsupportedBytes →
    step s = .next { s with run := .faulted } ∧
    s.stepReport cycles = .unsupportedOpcode s.pc (s.read8 s.pc) ∧
    step { s with run := .faulted } = .fault (.unsupportedOpcode s.pc (s.read8 s.pc))

/-- 60_exceptions.md R230, R233, 41_arithmetic.md R156: the meaning of the unsupported bytes, DAA among them, is the taking of
the exception, in every state. Which bytes raise it and that it leaves Faulted are the spec's decisions D2, D3, D10; that `exec`
answers the exception as a next state is the model's choice (log 3). -/
def Obligations.UnsupportedInstructionsEnterFaulted : Prop :=
  ∀ (i : Instr) (s : State), IsUnsupported i → exec i s = .next { s with run := .faulted }

/-- Derived from 60_exceptions.md R231, R230 and 30_encoding.md R98: UnsupportedOpcode is the only exception. From every running
state a step answers a next state (never a fault or a refusal), and that state is Faulted just when the byte at PC is one of the
thirteen. The thirteen bytes are the spec's decisions D2, D3, the state Faulted its decision D10; that the step at an unsupported
byte answers a next state is the model's choice (log 3). -/
def Obligations.OnlyUnsupportedOpcodesFault : Prop :=
  ∀ s : State, s.run = .running → ∃ t : State, step s = .next t ∧ (t.run = .faulted ↔ s.read8 s.pc ∈ unsupportedBytes)

/-- 30_encoding.md R90, 70_reset_and_hazards.md R270: what a step of the running core reports agrees with what it does:
Halted after HLT, the record after the fault, else the cycle count of the opcode, for any cycle table; `taken` is the
condition of a conditional instruction. That the report is a function beside the step is the model's choice (log 6). -/
def Obligations.StepReportAgreesWithStep : Prop :=
  ∀ (s t : State) (cycles : Config.CycleTable), s.run = .running → step s = .next t →
    (t.run = .halted → s.stepReport cycles = .halted) ∧
    (t.run = .faulted → s.stepReport cycles = .unsupportedOpcode s.pc (s.read8 s.pc)) ∧
    (t.run = .running → s.stepReport cycles = .cycles (cycles (s.read8 s.pc) (takenAt (s.read8 s.pc) s.fl))) ∧
    (∀ cc : Cond, (∃ a16, s.fetch = .ofJump cc a16) ∨ (∃ a16, s.fetch = .ofCall cc a16) ∨ s.fetch = .ofReturn cc →
      takenAt (s.read8 s.pc) s.fl = s.fl.cond cc)

/-- 70_reset_and_hazards.md R270, R271 (general knowledge there): the default table meets the one constraint on `CYCLES`, and
its conditional rows are the ones written there. -/
def Obligations.DefaultCyclesMeetTheConstraint : Prop :=
  defaultCycles.Admissible ∧
  ∀ (cc : Cond),
    (defaultCycles (condByte 0b100#3 cc) true = 17 ∧ defaultCycles (condByte 0b100#3 cc) false = 11) ∧
    (defaultCycles (condByte 0b000#3 cc) true = 11 ∧ defaultCycles (condByte 0b000#3 cc) false = 5) ∧
    (defaultCycles (condByte 0b010#3 cc) true = 10 ∧ defaultCycles (condByte 0b010#3 cc) false = 10)

/-! ### Whole-machine rules -/

/-- 10_state.md R37, 47_control.md R221 (HLT's PC is the spec's decision D22): every instruction but the control transfers and
the unsupported bytes ends with PC at the following instruction; an unsupported byte leaves PC. -/
def Obligations.OnlyTransfersLeaveStraightLine : Prop :=
  ∀ (i : Instr) (s t : State), exec i s = .next t →
    (¬ IsTransfer i → ¬ IsUnsupported i → t.pc = s.pc + BitVec.ofNat 16 (encode i).length) ∧
    (IsUnsupported i → t.pc = s.pc)

/-- 10_state.md R38: SP is written only by LXI SP, INX SP, DCX SP, SPHL and the stack instructions. -/
def Obligations.OnlyStackInstructionsWriteSp : Prop :=
  ∀ (i : Instr) (s t : State), ¬ WritesSp i → exec i s = .next t → t.sp = s.sp

/-- 10_state.md R40: a flag that the table does not list for an instruction is unchanged. -/
def Obligations.FlagsOutsideTheTableAreUnchanged : Prop :=
  ∀ (i : Instr) (s t : State), exec i s = .next t →
    (¬ WritesCarry i → t.fl.c = s.fl.c) ∧
    (¬ WritesZspAc i → t.fl.z = s.fl.z ∧ t.fl.s = s.fl.s ∧ t.fl.p = s.fl.p ∧ t.fl.ac = s.fl.ac)

/-- 20_memory.md R70: an instruction that the table gives no store leaves every byte of memory. -/
def Obligations.OnlyStoringInstructionsWriteMemory : Prop :=
  ∀ (i : Instr) (s t : State), ¬ Stores i → exec i s = .next t → ∀ addr : Word, t.read8 addr = s.read8 addr

/-- 10_state.md R46, R48, R50: the latch changes only by EI and DI, the run state only by HLT and the fault, the Ports
collaborator only by OUT, the count of port reads (the model's own, log 1) only by IN. -/
def Obligations.LatchRunStateAndPortsHaveFewWriters : Prop :=
  ∀ (i : Instr) (s t : State), exec i s = .next t →
    (i ≠ .ei → i ≠ .di → t.inte = s.inte) ∧
    (i ≠ .hlt → ¬ IsUnsupported i → t.run = s.run) ∧
    ((∀ p, i ≠ .outPort p) → t.shiftReg = s.shiftReg ∧ t.shiftAmount = s.shiftAmount) ∧
    ((∀ p, i ≠ .inPort p) → t.portReads = s.portReads)

/-- 10_state.md R54: no instruction but PUSH PSW reads AC: two states that differ in AC alone are taken to states that differ in
AC alone. -/
def Obligations.OnlyPushPswReadsAuxiliaryCarry : Prop :=
  ∀ (i : Instr) (s t : State) (ac : Bool), i ≠ .pushPSW → exec i s = .next t →
    ∃ ac', exec i { s with fl := { s.fl with ac := ac } } = .next { t with fl := { t.fl with ac := ac' } }

/-- 10_state.md R46: no instruction reads the interrupt-enable latch. -/
def Obligations.NoInstructionReadsTheLatch : Prop :=
  ∀ (i : Instr) (s t : State) (v : Bool), exec i s = .next t →
    ∃ v', exec i { s with inte := v } = .next { t with inte := v' }

/-! ### Data transfer -/

/-- 40_data_transfer.md R133, for every instruction of the family with its destination. -/
def Obligations.DataTransferFamilyLaw : Prop :=
  (∀ dst src : Reg8, ¬ (dst = .m ∧ src = .m) → TransferLaw (.ofMov dst src) (destRegs dst) (destAddrs dst) 1) ∧
  (∀ (dst : Reg8) (d8 : Byte), TransferLaw (.ofMvi dst d8) (destRegs dst) (destAddrs dst) 2) ∧
  (∀ (rp : Pair) (d16 : Word), TransferLaw (.ofLxi rp d16) (pairRegs rp) (fun _ => []) 3) ∧
  (∀ a16 : Word, TransferLaw (.lda a16) [.a] (fun _ => []) 3) ∧
  (∀ a16 : Word, TransferLaw (.sta a16) [] (fun _ => [a16]) 3) ∧
  (∀ rp : IndexPair, TransferLaw (.ofLdax rp) [.a] (fun _ => []) 1) ∧
  (∀ rp : IndexPair, TransferLaw (.ofStax rp) [] (fun s => [s.indexPair rp]) 1) ∧
  (∀ a16 : Word, TransferLaw (.lhld a16) [.h, .l] (fun _ => []) 3) ∧
  (∀ a16 : Word, TransferLaw (.shld a16) [] (fun _ => [a16, a16 + 1]) 3) ∧
  TransferLaw .xchg [.d, .e, .h, .l] (fun _ => []) 1

/-- 40_data_transfer.md R120 to R124: MOV in its three forms and MVI in its two. `src` is read, and HL taken, before the write. -/
def Obligations.MovAndMviMoveOneByte : Prop :=
  ∀ (dst : Reg8) (s : State),
    let moved : Byte → Word → State → Prop := fun v next t =>
      Frame (destRegs dst) (destAddrs dst s) s t ∧ t.fl = s.fl ∧ t.sp = s.sp ∧ t.pc = next ∧
      (dst ≠ .m → t.reg8 dst = v) ∧ (dst = .m → t.read8 (s.pair .hl) = v)
    (∀ src : Reg8, ¬ (dst = .m ∧ src = .m) →
      ∃ t : State, exec (.ofMov dst src) s = .next t ∧ moved (s.reg8 src) (s.pc + 1) t) ∧
    (∀ d8 : Byte, ∃ t : State, exec (.ofMvi dst d8) s = .next t ∧ moved d8 (s.pc + 2) t)

/-- 40_data_transfer.md R125 (SP as the fourth pair is the spec's decision D25): LXI. -/
def Obligations.LxiLoadsThePair : Prop :=
  ∀ (rp : Pair) (d16 : Word) (s : State),
    ∃ t : State, exec (.ofLxi rp d16) s = .next t ∧ Frame (pairRegs rp) [] s t ∧
      t.fl = s.fl ∧ t.pc = s.pc + 3 ∧ t.pair rp = d16 ∧ (rp ≠ .sp → t.sp = s.sp)

/-- 40_data_transfer.md R126 to R129: LDA, LDAX load A from the addressed byte; STA, STAX store A there. -/
def Obligations.AccumulatorLoadsAndStores : Prop :=
  ∀ s : State,
    (∀ a16 : Word, ∃ t : State, exec (.lda a16) s = .next t ∧ Frame [.a] [] s t ∧ t.fl = s.fl ∧ t.sp = s.sp ∧
      t.pc = s.pc + 3 ∧ t.a = s.read8 a16) ∧
    (∀ rp : IndexPair, ∃ t : State, exec (.ofLdax rp) s = .next t ∧ Frame [.a] [] s t ∧ t.fl = s.fl ∧ t.sp = s.sp ∧
      t.pc = s.pc + 1 ∧ t.a = s.read8 (s.indexPair rp)) ∧
    (∀ a16 : Word, ∃ t : State, exec (.sta a16) s = .next t ∧ Frame [] [a16] s t ∧ t.fl = s.fl ∧ t.sp = s.sp ∧
      t.pc = s.pc + 3 ∧ t.read8 a16 = s.a) ∧
    (∀ rp : IndexPair, ∃ t : State, exec (.ofStax rp) s = .next t ∧ Frame [] [s.indexPair rp] s t ∧ t.fl = s.fl ∧
      t.sp = s.sp ∧ t.pc = s.pc + 1 ∧ t.read8 (s.indexPair rp) = s.a)

/-- 40_data_transfer.md R130, R131, R132 (the byte order is the spec's decision D7, the wrap D18, XCHG's pairs general knowledge):
LHLD and SHLD, L at `a16` and H at `a16 + 1`; XCHG exchanges HL and DE. -/
def Obligations.HlLoadsStoresAndExchange : Prop :=
  ∀ s : State,
    (∀ a16 : Word, ∃ t : State, exec (.lhld a16) s = .next t ∧ Frame [.h, .l] [] s t ∧ t.fl = s.fl ∧ t.sp = s.sp ∧
      t.pc = s.pc + 3 ∧ t.l = s.read8 a16 ∧ t.h = s.read8 (a16 + 1)) ∧
    (∀ a16 : Word, ∃ t : State, exec (.shld a16) s = .next t ∧ Frame [] [a16, a16 + 1] s t ∧ t.fl = s.fl ∧ t.sp = s.sp ∧
      t.pc = s.pc + 3 ∧ t.read8 a16 = s.l ∧ t.read8 (a16 + 1) = s.h) ∧
    (∃ t : State, exec .xchg s = .next t ∧ Frame [.d, .e, .h, .l] [] s t ∧ t.fl = s.fl ∧ t.sp = s.sp ∧
      t.pc = s.pc + 1 ∧ t.pair .hl = s.pair .de ∧ t.pair .de = s.pair .hl)

/-! ### Arithmetic and logic -/

/-- 41_arithmetic.md R140, R141, R144, R145, R148 (the AC column is the spec's decision D4): ADD, ADC and their immediates. `v` is
the operand read before A is written, `cin` the carry before ADC. -/
def Obligations.AdditionsSetAccumulatorAndFlags : Prop :=
  ∀ (s : State) (withCarry : Bool) (v : Byte),
    let cin : Nat := if withCarry then s.fl.c.toNat else 0
    let sum : Nat := s.a.toNat + v.toNat + cin
    let result : State → Prop := fun t =>
      t.a.toNat = sum % 256 ∧
      t.fl = { z := decide (sum % 256 = 0), s := decide (sum % 256 ≥ 128), p := parity8 t.a, c := decide (sum > 255),
               ac := decide (s.a.toNat % 16 + v.toNat % 16 + cin > 15) }
    let op : AluOp := if withCarry then .adc else .add
    (∀ r : Reg8, v = s.reg8 r → ∃ t : State, exec (.ofAlu op r) s = .next t ∧ Frame [.a] [] s t ∧ t.sp = s.sp ∧
      t.pc = s.pc + 1 ∧ result t) ∧
    (∃ t : State, exec (.ofAluImm op v) s = .next t ∧ Frame [.a] [] s t ∧ t.sp = s.sp ∧ t.pc = s.pc + 2 ∧ result t)

/-- 41_arithmetic.md R142, R143, R146, R147, R149 (the AC column is the spec's decision D4): SUB, SBB and their immediates; C is the
borrow. -/
def Obligations.SubtractionsSetAccumulatorAndFlags : Prop :=
  ∀ (s : State) (withBorrow : Bool) (v : Byte),
    let bin : Nat := if withBorrow then s.fl.c.toNat else 0
    let res : Nat := (s.a.toNat + 512 - v.toNat - bin) % 256
    let result : State → Prop := fun t =>
      t.a.toNat = res ∧
      t.fl = { z := decide (res = 0), s := decide (res ≥ 128), p := parity8 t.a, c := decide (s.a.toNat < v.toNat + bin),
               ac := decide (s.a.toNat % 16 ≥ v.toNat % 16 + bin) }
    let op : AluOp := if withBorrow then .sbb else .sub
    (∀ r : Reg8, v = s.reg8 r → ∃ t : State, exec (.ofAlu op r) s = .next t ∧ Frame [.a] [] s t ∧ t.sp = s.sp ∧
      t.pc = s.pc + 1 ∧ result t) ∧
    (∃ t : State, exec (.ofAluImm op v) s = .next t ∧ Frame [.a] [] s t ∧ t.sp = s.sp ∧ t.pc = s.pc + 2 ∧ result t)

/-- 42_logical.md R168, R172 (the AC column is the spec's decision D4): CMP and CPI leave A and set the flags of the difference;
Z is equality and C is unsigned "below". -/
def Obligations.CompareSetsFlagsOnly : Prop :=
  ∀ (s : State) (v : Byte),
    let result : State → Prop := fun t =>
      t.fl = { z := decide (s.a = v), s := (s.a - v).msb, p := parity8 (s.a - v), c := decide (s.a < v),
               ac := decide (s.a.toNat % 16 ≥ v.toNat % 16) }
    (∀ r : Reg8, v = s.reg8 r → ∃ t : State, exec (.ofAlu .cmp r) s = .next t ∧ Frame [] [] s t ∧ t.sp = s.sp ∧
      t.pc = s.pc + 1 ∧ result t) ∧
    (∃ t : State, exec (.cpi v) s = .next t ∧ Frame [] [] s t ∧ t.sp = s.sp ∧ t.pc = s.pc + 2 ∧ result t)

/-- 42_logical.md R165, R166, R167, R169, R170, R171, R173: the bitwise operations, bit by bit; C and AC are cleared. -/
def Obligations.LogicalOperationsAreBitwise : Prop :=
  ∀ (s : State) (op : AluOp) (f : Bool → Bool → Bool) (v : Byte),
    (op = .ana ∧ f = (fun x y => x && y)) ∨ (op = .xra ∧ f = (fun x y => x != y)) ∨ (op = .ora ∧ f = (fun x y => x || y)) →
    let result : State → Prop := fun t =>
      (∀ n : Nat, n < 8 → t.a.getLsbD n = f (s.a.getLsbD n) (v.getLsbD n)) ∧
      t.fl = { z := decide (t.a = 0#8), s := t.a.msb, p := parity8 t.a, c := false, ac := false }
    (∀ r : Reg8, v = s.reg8 r → ∃ t : State, exec (.ofAlu op r) s = .next t ∧ Frame [.a] [] s t ∧ t.sp = s.sp ∧
      t.pc = s.pc + 1 ∧ result t) ∧
    (∃ t : State, exec (.ofAluImm op v) s = .next t ∧ Frame [.a] [] s t ∧ t.sp = s.sp ∧ t.pc = s.pc + 2 ∧ result t)

/-- 41_arithmetic.md R150, R151 (AC is the spec's decision D4): INR and DCR, register and M; C is not touched. -/
def Obligations.IncrementAndDecrementKeepCarry : Prop :=
  ∀ (r : Reg8) (s : State),
    let v : Nat := (s.reg8 r).toNat
    let result : Nat → Bool → State → Prop := fun res ac t =>
      (if r = .m then t.read8 (s.pair .hl) = BitVec.ofNat 8 res else t.reg8 r = BitVec.ofNat 8 res) ∧
      t.fl = { z := decide (res = 0), s := decide (res ≥ 128), p := parity8 (BitVec.ofNat 8 res), c := s.fl.c, ac := ac }
    (∃ t : State, exec (.ofInr r) s = .next t ∧ Frame (destRegs r) (destAddrs r s) s t ∧ t.sp = s.sp ∧
      t.pc = s.pc + 1 ∧ result ((v + 1) % 256) (decide (v % 16 = 15)) t) ∧
    (∃ t : State, exec (.ofDcr r) s = .next t ∧ Frame (destRegs r) (destAddrs r s) s t ∧ t.sp = s.sp ∧
      t.pc = s.pc + 1 ∧ result ((v + 255) % 256) (decide (v % 16 ≠ 0)) t)

/-- 41_arithmetic.md R152: DAD adds a pair to HL and writes C alone. -/
def Obligations.DadAddsToHlAndWritesCarry : Prop :=
  ∀ (rp : Pair) (s : State), ∃ t : State, exec (.ofDad rp) s = .next t ∧ Frame [.h, .l] [] s t ∧ t.sp = s.sp ∧
    t.pc = s.pc + 1 ∧ t.pair .hl = s.pair .hl + s.pair rp ∧
    t.fl = { s.fl with c := decide ((s.pair .hl).toNat + (s.pair rp).toNat ≥ 65536) }

/-- 41_arithmetic.md R153, R154: INX and DCX wrap at 16 bits and write no flag. -/
def Obligations.InxAndDcxWriteNoFlag : Prop :=
  ∀ (rp : Pair) (s : State),
    (∃ t : State, exec (.ofInx rp) s = .next t ∧ Frame (pairRegs rp) [] s t ∧ t.fl = s.fl ∧ t.pc = s.pc + 1 ∧
      (t.pair rp).toNat = ((s.pair rp).toNat + 1) % 65536 ∧ (rp ≠ .sp → t.sp = s.sp)) ∧
    (∃ t : State, exec (.ofDcx rp) s = .next t ∧ Frame (pairRegs rp) [] s t ∧ t.fl = s.fl ∧ t.pc = s.pc + 1 ∧
      (t.pair rp).toNat = ((s.pair rp).toNat + 65535) % 65536 ∧ (rp ≠ .sp → t.sp = s.sp))

/-- 41_arithmetic.md R149 (AC is the spec's decision D4, its polarity general knowledge): the subtraction is the addition of the
complement with the borrow-in inverted: same result, same Z, S, P and AC, and C the inverse of the carry. -/
def Obligations.SubtractionIsComplementAddition : Prop :=
  ∀ (a v : Byte) (bin : Bool),
    let sum := add8 a (~~~v) (!bin)
    sub8 a v bin = (sum.1, { sum.2 with c := !sum.2.c })

/-- 10_state.md R43, R44, 42_logical.md R173: parity is the evenness of the number of 1 bits; Z, S and P come from the 8-bit result and
C and AC are left; a bitwise operation also clears C and AC. -/
def Obligations.FlagsOfAnEightBitResult : Prop :=
  ∀ (v : Byte) (fl : Flags),
    parity8 v = decide ((List.range 8).countP (fun n => v.toNat / 2 ^ n % 2 = 1) % 2 = 0) ∧
    fl.setZSP v = { z := decide (v.toNat = 0), s := decide (v.toNat / 128 = 1), p := parity8 v, c := fl.c, ac := fl.ac } ∧
    logic8 v = (v, { z := decide (v.toNat = 0), s := decide (v.toNat / 128 = 1), p := parity8 v, c := false, ac := false })

/-! ### Rotates and carry -/

/-- 43_rotate_and_carry.md R180 to R183: RLC and RRC rotate A in 8 bits, RAL and RAR rotate C:A in 9 bits; C gets the bit that
leaves A, and no other flag is written. -/
def Obligations.RotatesMoveOneBit : Prop :=
  ∀ s : State,
    (∃ t : State, exec .rlc s = .next t ∧ Frame [.a] [] s t ∧ t.sp = s.sp ∧ t.pc = s.pc + 1 ∧
      t.fl = { s.fl with c := s.a.getLsbD 7 } ∧ t.a = s.a.rotateLeft 1) ∧
    (∃ t : State, exec .rrc s = .next t ∧ Frame [.a] [] s t ∧ t.sp = s.sp ∧ t.pc = s.pc + 1 ∧
      t.fl = { s.fl with c := s.a.getLsbD 0 } ∧ t.a = s.a.rotateRight 1) ∧
    (∃ t : State, exec .ral s = .next t ∧ Frame [.a] [] s t ∧ t.sp = s.sp ∧ t.pc = s.pc + 1 ∧
      t.fl = { s.fl with c := s.a.getLsbD 7 } ∧ BitVec.cons t.fl.c t.a = (BitVec.cons s.fl.c s.a).rotateLeft 1) ∧
    (∃ t : State, exec .rar s = .next t ∧ Frame [.a] [] s t ∧ t.sp = s.sp ∧ t.pc = s.pc + 1 ∧
      t.fl = { s.fl with c := s.a.getLsbD 0 } ∧ BitVec.cons t.fl.c t.a = (BitVec.cons s.fl.c s.a).rotateRight 1)

/-- 43_rotate_and_carry.md R184, R185, R186 (the spec's decisions D1, D24): CMA complements A and no flag; STC and CMC write C alone. -/
def Obligations.ComplementAndCarryInstructions : Prop :=
  ∀ s : State,
    (∃ t : State, exec .cma s = .next t ∧ Frame [.a] [] s t ∧ t.sp = s.sp ∧ t.pc = s.pc + 1 ∧ t.fl = s.fl ∧
      t.a.toNat = 255 - s.a.toNat) ∧
    (∃ t : State, exec .stc s = .next t ∧ Frame [] [] s t ∧ t.sp = s.sp ∧ t.pc = s.pc + 1 ∧
      t.fl = { s.fl with c := true }) ∧
    (∃ t : State, exec .cmc s = .next t ∧ Frame [] [] s t ∧ t.sp = s.sp ∧ t.pc = s.pc + 1 ∧
      t.fl = { s.fl with c := !s.fl.c })

/-! ### Stack -/

/-- 44_stack.md R190, R191, 20_memory.md R66 (the byte order is the spec's decision D6): PUSH stores the high byte at `sp - 1` and the
low byte at `sp - 2`; PSW is A above F. -/
def Obligations.PushStoresAPair : Prop :=
  ∀ (rp : StackPair) (s : State), ∃ t : State, exec (.ofPush rp) s = .next t ∧ Frame [] [s.sp - 1, s.sp - 2] s t ∧
    t.fl = s.fl ∧ t.sp = s.sp - 2 ∧ t.pc = s.pc + 1 ∧
    (t.read8 (s.sp - 1), t.read8 (s.sp - 2)) =
      match rp with
      | .bc => (s.b, s.c)
      | .de => (s.d, s.e)
      | .hl => (s.h, s.l)
      | .psw => (s.a, s.fl.pack)

/-- 44_stack.md R192, R193, 20_memory.md R67 (the byte order is the spec's decision D6): POP takes the low byte at `sp` and the high
byte at `sp + 1`; POP PSW writes A and all five flags, the other forms no flag. -/
def Obligations.PopLoadsAPair : Prop :=
  ∀ (rp : StackPair) (s : State), ∃ t : State, exec (.ofPop rp) s = .next t ∧ Frame (stackRegs rp) [] s t ∧
    t.sp = s.sp + 2 ∧ t.pc = s.pc + 1 ∧
    let lo := s.read8 s.sp
    let hi := s.read8 (s.sp + 1)
    match rp with
    | .bc => t.b = hi ∧ t.c = lo ∧ t.fl = s.fl
    | .de => t.d = hi ∧ t.e = lo ∧ t.fl = s.fl
    | .hl => t.h = hi ∧ t.l = lo ∧ t.fl = s.fl
    | .psw => t.a = hi ∧ t.fl = { c := lo.getLsbD 0, p := lo.getLsbD 2, ac := lo.getLsbD 4, z := lo.getLsbD 6, s := lo.getLsbD 7 }

/-- 44_stack.md R194, R195 (general knowledge there; the byte order is the spec's decision D7): XTHL exchanges HL with the two bytes at
SP and keeps SP; SPHL copies HL to SP. -/
def Obligations.XthlAndSphl : Prop :=
  ∀ s : State,
    (∃ t : State, exec .xthl s = .next t ∧ Frame [.h, .l] [s.sp, s.sp + 1] s t ∧ t.fl = s.fl ∧ t.sp = s.sp ∧
      t.pc = s.pc + 1 ∧ t.l = s.read8 s.sp ∧ t.h = s.read8 (s.sp + 1) ∧ t.read8 s.sp = s.l ∧ t.read8 (s.sp + 1) = s.h) ∧
    (∃ t : State, exec .sphl s = .next t ∧ Frame [] [] s t ∧ t.fl = s.fl ∧ t.pc = s.pc + 1 ∧ t.sp = s.pair .hl)

/-- 95_test_vectors.md S4: `PUSH rp; POP rp'` moves the exact 16-bit value and restores SP; `PUSH PSW; POP PSW` restores A and all
five flags; everything but memory below SP and PC is then as before. -/
def Obligations.PushThenPopRestores : Prop :=
  ∀ (rp rq : StackPair) (s t : State), exec (.ofPush rp) s = .next t →
    ∃ u : State, exec (.ofPop rq) t = .next u ∧ u.sp = s.sp ∧ u.pc = s.pc + 2 ∧
      Frame (stackRegs rq) [s.sp - 1, s.sp - 2] s u ∧
      (rq ≠ .psw → u.stackPair rq = s.stackPair rp ∧ u.fl = s.fl) ∧
      (rp = .psw → rq = .psw → u.a = s.a ∧ u.fl = s.fl)

/-- 10_state.md R41: the flag byte is `SZ0A0P1C`. -/
def Obligations.FlagByteLayout : Prop :=
  ∀ fl : Flags,
    fl.pack.getLsbD 0 = fl.c ∧ fl.pack.getLsbD 1 = true ∧ fl.pack.getLsbD 2 = fl.p ∧ fl.pack.getLsbD 3 = false ∧
    fl.pack.getLsbD 4 = fl.ac ∧ fl.pack.getLsbD 5 = false ∧ fl.pack.getLsbD 6 = fl.z ∧ fl.pack.getLsbD 7 = fl.s

/-- 10_state.md R42 (that bits 1, 3, 5 are not kept is the spec's decision D19): unpacking a packed byte gives the flags back, and
packing an unpacked byte gives `(b & 0xD5) | 0x02`. -/
def Obligations.FlagByteRoundTrip : Prop :=
  (∀ fl : Flags, unpackF fl.pack = fl) ∧ (∀ b : Byte, (unpackF b).pack = (b &&& 0xD5#8) ||| 0x02#8)

/-! ### Branches -/

/-- 45_branch.md R200, R201, R202, R207 (the condition codes and PCHL are general knowledge there): JMP and PCHL always jump; J<cond>
jumps when its one flag has its polarity, else PC passes the three bytes. Nothing but PC changes. -/
def Obligations.JumpsWritePcOnly : Prop :=
  ∀ s : State,
    (∀ a16 : Word, exec (.jmp a16) s = .next { s with pc := a16 }) ∧
    exec .pchl s = .next { s with pc := s.pair .hl } ∧
    (∀ (a16 : Word) (cc : Cond) (flag polarity : Bool),
      (cc, flag, polarity) ∈ [(Cond.nz, s.fl.z, false), (.z, s.fl.z, true), (.nc, s.fl.c, false), (.c, s.fl.c, true),
        (.po, s.fl.p, false), (.pe, s.fl.p, true), (.p, s.fl.s, false), (.m, s.fl.s, true)] →
      exec (.ofJump cc a16) s = .next { s with pc := if flag = polarity then a16 else s.pc + 3 })

/-- 45_branch.md R203, R204, R210, R211 (the byte order is the spec's decision D6; RST is D1, D24): CALL, a taken C<cond> and RST push the
address of the following instruction and jump; a C<cond> not taken changes PC alone. -/
def Obligations.CallsPushTheReturnAddress : Prop :=
  ∀ s : State,
    let called : Nat → Word → State → Prop := fun len target t =>
      Frame [] [s.sp - 1, s.sp - 2] s t ∧ t.fl = s.fl ∧ t.sp = s.sp - 2 ∧ t.pc = target ∧
      (t.read8 (s.sp - 1)).toNat = (s.pc.toNat + len) % 65536 / 256 ∧
      (t.read8 (s.sp - 2)).toNat = (s.pc.toNat + len) % 256
    (∀ a16 : Word, ∃ t : State, exec (.call a16) s = .next t ∧ called 3 a16 t) ∧
    (∀ n : Fin 8, ∃ t : State, exec (.ofRst n) s = .next t ∧ called 1 (BitVec.ofNat 16 (8 * n.val)) t) ∧
    (∀ (cc : Cond) (a16 : Word), s.fl.cond cc = true → ∃ t : State, exec (.ofCall cc a16) s = .next t ∧ called 3 a16 t) ∧
    (∀ (cc : Cond) (a16 : Word), s.fl.cond cc = false → exec (.ofCall cc a16) s = .next { s with pc := s.pc + 3 })

/-- 45_branch.md R205, R206 (the byte order is the spec's decision D6): RET and a taken R<cond> pop PC; an R<cond> not taken changes PC
alone. -/
def Obligations.ReturnsPopPc : Prop :=
  ∀ s : State,
    let target : Word := BitVec.ofNat 16 ((s.read8 s.sp).toNat + 256 * (s.read8 (s.sp + 1)).toNat)
    exec .ret s = .next { s with pc := target, sp := s.sp + 2 } ∧
    (∀ cc : Cond, s.fl.cond cc = true → exec (.ofReturn cc) s = .next { s with pc := target, sp := s.sp + 2 }) ∧
    (∀ cc : Cond, s.fl.cond cc = false → exec (.ofReturn cc) s = .next { s with pc := s.pc + 1 })

/-- 95_test_vectors.md S5: a RET right after a CALL resumes after the CALL, with SP restored and all but memory below SP as before. -/
def Obligations.ReturnAfterCallResumes : Prop :=
  ∀ (a16 : Word) (s t : State), exec (.call a16) s = .next t →
    ∃ u : State, exec .ret t = .next u ∧ u.pc = s.pc + 3 ∧ u.sp = s.sp ∧ u.fl = s.fl ∧
      Frame [] [s.sp - 1, s.sp - 2] s u

/-- 20_memory.md R77: a store into the next instruction is seen by the next step: after `STA` to the byte that follows it, the
next step runs the opcode that A held. -/
def Obligations.StoreIsSeenByTheNextFetch : Prop :=
  ∀ s : State, s.run = .running → s.fetch = .sta (s.pc + 3) →
    ∃ t : State, step s = .next t ∧ step t = exec (decodeAt s.a (s.read8 (s.pc + 4)) (s.read8 (s.pc + 5))) t

/-! ### Ports, control, the host interrupt -/

/-- 46_io.md R217, R215, 60_exceptions.md R248, R249 (ports 1, 2 and the absent ports are the spec's decision D12): IN puts the port's byte in
A; ports 1 and 2 give the free input at the run's current count of port reads, which the model counts up (log 1). -/
def Obligations.InputReadsThePort : Prop :=
  ∀ (p : Byte) (s : State),
    exec (.inPort p) s = .next { s with
      a := if p.toNat = 3 then BitVec.ofNat 8 (s.shiftReg.toNat / 2 ^ (8 - s.shiftAmount.toNat))
           else if p.toNat = 1 ∨ p.toNat = 2 then Config.portIn p s.portReads else 0x00#8
      pc := s.pc + 2
      portReads := s.portReads + 1 }

/-- 46_io.md R218, R216, 60_exceptions.md R246, R247, R249 (the other ports are the spec's decision D12): OUT hands A to the port; port 4
shifts it into the top of the shift register, port 2 sets the shift amount, no other port does anything. -/
def Obligations.OutputWritesThePort : Prop :=
  ∀ (p : Byte) (s : State),
    exec (.outPort p) s = .next { s with
      shiftReg := if p.toNat = 4 then BitVec.ofNat 16 (s.a.toNat * 256 + s.shiftReg.toNat / 256) else s.shiftReg
      shiftAmount := if p.toNat = 2 then BitVec.ofNat 3 (s.a.toNat % 8) else s.shiftAmount
      pc := s.pc + 2 }

/-- 60_exceptions.md R246, R247, R248: the shift device bit by bit. OUT to port 4 puts A above the old high byte and keeps
the amount, OUT to port 2 keeps the three low bits of A and the register, IN from port 3 gives bits `15 - amount` down to
`8 - amount` of the register and changes no device state. -/
def Obligations.ShiftDeviceRegisters : Prop :=
  ∀ s : State,
    exec (.outPort 4#8) s = .next { s with shiftReg := s.a ++ s.shiftReg.extractLsb' 8 8, pc := s.pc + 2 } ∧
    exec (.outPort 2#8) s = .next { s with shiftAmount := s.a.extractLsb' 0 3, pc := s.pc + 2 } ∧
    ∃ t : State, exec (.inPort 3#8) s = .next t ∧ t.shiftReg = s.shiftReg ∧ t.shiftAmount = s.shiftAmount ∧
      ∀ n : Nat, n < 8 → t.a.getLsbD n = s.shiftReg.getLsbD (8 - s.shiftAmount.toNat + n)

/-- 95_test_vectors.md S8: OUT 4 with x, OUT 4 with y, OUT 2 with n, then IN 3 gives bits of y:x, whatever stands in memory and the
device before. A is set between the steps by hypothesis. -/
def Obligations.ShiftDeviceThroughInOut : Prop :=
  ∀ (x y n : Byte) (s t1 t2 t3 t4 : State),
    exec (.outPort 4#8) { s with a := x } = .next t1 → exec (.outPort 4#8) { t1 with a := y } = .next t2 →
    exec (.outPort 2#8) { t2 with a := n } = .next t3 → exec (.inPort 3#8) t3 = .next t4 →
    t4.a.toNat = (y.toNat * 256 + x.toNat) / 2 ^ (8 - n.toNat % 8) % 256

/-- 47_control.md R220 to R223 (EI and DI's polarity is the spec's decision D8, HLT's PC D22): NOP, EI, DI and HLT change PC and their one
bit of state. -/
def Obligations.ControlInstructions : Prop :=
  ∀ s : State,
    exec .nop s = .next { s with pc := s.pc + 1 } ∧
    exec .hlt s = .next { s with pc := s.pc + 1, run := .halted } ∧
    exec .di s = .next { s with pc := s.pc + 1, inte := false } ∧
    exec .ei s = .next { s with pc := s.pc + 1, inte := true }

/-- 60_exceptions.md R235, R236 (general knowledge there; the spec's decision D9): with `IRQ_MODEL = none` a host interrupt changes nothing;
with `host_rst` it is taken only in Running with the latch set, and then clears the latch, pushes PC and goes to 8n. -/
def Obligations.HostInterruptIsOptional : Prop :=
  ∀ (n : Fin 8) (s : State),
    s.hostInterrupt Config.irqModel n = s ∧
    (¬ (s.run = .running ∧ s.inte = true) → s.hostInterrupt .hostRst n = s) ∧
    (s.run = .running → s.inte = true → ∃ t : State, s.hostInterrupt .hostRst n = { t with inte := false } ∧
      Frame [] [s.sp - 1, s.sp - 2] s t ∧ t.fl = s.fl ∧ t.sp = s.sp - 2 ∧ t.pc.toNat = 8 * n.val ∧
      t.read16 t.sp = s.pc)
end

