-- ==== Sys2Proof/Laws/Encoding.lean ====
section
/-! SUPPORT. The small lemmas of the byte-order helpers, the opcode map and the length table. -/

namespace Sys2Proof

theorem joinBytes_toNat (hi lo : Byte) : (joinBytes hi lo).toNat = hi.toNat * 256 + lo.toNat := by
  rw [joinBytes, BitVec.toNat_append, ← Nat.shiftLeft_add_eq_or_of_lt lo.isLt, Nat.shiftLeft_eq]

theorem hiByte_toNat (w : Word) : (hiByte w).toNat = w.toNat / 256 := by
  have := w.isLt
  rw [hiByte, BitVec.extractLsb'_toNat, Nat.shiftRight_eq_div_pow]
  omega

theorem loByte_toNat (w : Word) : (loByte w).toNat = w.toNat % 256 := by
  rw [loByte, BitVec.extractLsb'_toNat, Nat.shiftRight_zero]

@[simp] theorem hiByte_joinBytes (hi lo : Byte) : hiByte (joinBytes hi lo) = hi := by
  have := lo.isLt
  apply BitVec.eq_of_toNat_eq
  rw [hiByte_toNat, joinBytes_toNat]
  omega

@[simp] theorem loByte_joinBytes (hi lo : Byte) : loByte (joinBytes hi lo) = lo := by
  have := lo.isLt
  apply BitVec.eq_of_toNat_eq
  rw [loByte_toNat, joinBytes_toNat]
  omega

@[simp] theorem joinBytes_hiByte_loByte (w : Word) : joinBytes (hiByte w) (loByte w) = w := by
  apply BitVec.eq_of_toNat_eq
  rw [joinBytes_toNat, hiByte_toNat, loByte_toNat]
  omega

/-- A decoded instruction and the list decoder agree: three bytes always hold an instruction. -/
theorem decode_three (op b1 b2 : Byte) : ∃ rest, decode [op, b1, b2] = .ok (decodeAt op b1 b2, rest) := by
  simp only [decode, decodeAt]
  cases shapeOf op <;> exact ⟨_, rfl⟩

/-- The grid has an entry of its own for every opcode byte: 16 rows of 16. -/
theorem opcodeGrid_complete : opcodeGrid.map List.length = List.replicate 16 16 := rfl

/-- What the opcode map says of one byte, checked against the encoder: the instruction of its entry is well formed and its
encoding is this byte and then the operand bytes. -/
def ShapeSpec (op : Byte) : Prop :=
  match shapeOf op with
  | .i1 i => i.wf = true ∧ encode i = [op]
  | .i2 f => ∀ d8, (f d8).wf = true ∧ encode (f d8) = [op, d8]
  | .i3 f => ∀ d16, (f d16).wf = true ∧ encode (f d16) = [op, loByte d16, hiByte d16]

/-- The grid of 30_encoding.md R97 and the patterns of R96 say the same, for each of the 256 bytes. -/
theorem shapeOf_spec (op : Byte) : ShapeSpec op := by
  have key : ∀ n < 256, ShapeSpec (BitVec.ofNat 8 n) := by
    intro n hn
    interval_cases n <;> first | exact And.intro rfl rfl | exact fun _ => And.intro rfl rfl
  simpa using key op.toNat op.isLt

/-- The formats of the grid and the length lists of 30_encoding.md R95 say the same, for each of the 256 bytes. -/
theorem lengthTable_eq_opcodeLength (op : Byte) : Machine.lengthTable op = opcodeLength op := by
  have key : ∀ n < 256, Machine.lengthTable (BitVec.ofNat 8 n) = opcodeLength (BitVec.ofNat 8 n) := by
    intro n hn
    interval_cases n <;> rfl
  simpa using key op.toNat op.isLt

namespace Laws.Length

/-- The twelve undocumented bytes count as one byte. -/
theorem unsupported_length (op : Byte) (h : (Instr.unsupported op).wf = true) :
    (encode (.unsupported op)).length = Machine.lengthTable ((encode (.unsupported op)).headD 0x00#8) := by
  have key : ∀ x ∈ undocumentedBytes, Machine.lengthTable x = 1 := by decide
  have hm : op ∈ undocumentedBytes := by simpa [Instr.wf] using h
  exact (key op hm).symm

end Laws.Length

end Sys2Proof
end

