-- ==== Sys2Proof/Laws/State.lean ====
section
/-! SUPPORT. One lemma per field per update of the state, each true by `rfl`, so that no later proof unfolds a record update. -/

namespace Sys2Proof.Machine

@[simp] theorem State.setPc_a (s : State) (v : Word) : (s.setPc v).a = s.a := rfl
@[simp] theorem State.setPc_b (s : State) (v : Word) : (s.setPc v).b = s.b := rfl
@[simp] theorem State.setPc_c (s : State) (v : Word) : (s.setPc v).c = s.c := rfl
@[simp] theorem State.setPc_d (s : State) (v : Word) : (s.setPc v).d = s.d := rfl
@[simp] theorem State.setPc_e (s : State) (v : Word) : (s.setPc v).e = s.e := rfl
@[simp] theorem State.setPc_h (s : State) (v : Word) : (s.setPc v).h = s.h := rfl
@[simp] theorem State.setPc_l (s : State) (v : Word) : (s.setPc v).l = s.l := rfl
@[simp] theorem State.setPc_fl (s : State) (v : Word) : (s.setPc v).fl = s.fl := rfl
@[simp] theorem State.setPc_pc (s : State) (v : Word) : (s.setPc v).pc = v := rfl
@[simp] theorem State.setPc_sp (s : State) (v : Word) : (s.setPc v).sp = s.sp := rfl
@[simp] theorem State.setPc_inte (s : State) (v : Word) : (s.setPc v).inte = s.inte := rfl
@[simp] theorem State.setPc_run (s : State) (v : Word) : (s.setPc v).run = s.run := rfl
@[simp] theorem State.setPc_mem (s : State) (v : Word) : (s.setPc v).mem = s.mem := rfl
@[simp] theorem State.setPc_shiftReg (s : State) (v : Word) : (s.setPc v).shiftReg = s.shiftReg := rfl
@[simp] theorem State.setPc_shiftAmount (s : State) (v : Word) : (s.setPc v).shiftAmount = s.shiftAmount := rfl
@[simp] theorem State.setPc_portReads (s : State) (v : Word) : (s.setPc v).portReads = s.portReads := rfl

@[simp] theorem State.setSp_a (s : State) (v : Word) : (s.setSp v).a = s.a := rfl
@[simp] theorem State.setSp_b (s : State) (v : Word) : (s.setSp v).b = s.b := rfl
@[simp] theorem State.setSp_c (s : State) (v : Word) : (s.setSp v).c = s.c := rfl
@[simp] theorem State.setSp_d (s : State) (v : Word) : (s.setSp v).d = s.d := rfl
@[simp] theorem State.setSp_e (s : State) (v : Word) : (s.setSp v).e = s.e := rfl
@[simp] theorem State.setSp_h (s : State) (v : Word) : (s.setSp v).h = s.h := rfl
@[simp] theorem State.setSp_l (s : State) (v : Word) : (s.setSp v).l = s.l := rfl
@[simp] theorem State.setSp_fl (s : State) (v : Word) : (s.setSp v).fl = s.fl := rfl
@[simp] theorem State.setSp_pc (s : State) (v : Word) : (s.setSp v).pc = s.pc := rfl
@[simp] theorem State.setSp_sp (s : State) (v : Word) : (s.setSp v).sp = v := rfl
@[simp] theorem State.setSp_inte (s : State) (v : Word) : (s.setSp v).inte = s.inte := rfl
@[simp] theorem State.setSp_run (s : State) (v : Word) : (s.setSp v).run = s.run := rfl
@[simp] theorem State.setSp_mem (s : State) (v : Word) : (s.setSp v).mem = s.mem := rfl
@[simp] theorem State.setSp_shiftReg (s : State) (v : Word) : (s.setSp v).shiftReg = s.shiftReg := rfl
@[simp] theorem State.setSp_shiftAmount (s : State) (v : Word) : (s.setSp v).shiftAmount = s.shiftAmount := rfl
@[simp] theorem State.setSp_portReads (s : State) (v : Word) : (s.setSp v).portReads = s.portReads := rfl

@[simp] theorem State.setFl_a (s : State) (v : Flags) : (s.setFl v).a = s.a := rfl
@[simp] theorem State.setFl_b (s : State) (v : Flags) : (s.setFl v).b = s.b := rfl
@[simp] theorem State.setFl_c (s : State) (v : Flags) : (s.setFl v).c = s.c := rfl
@[simp] theorem State.setFl_d (s : State) (v : Flags) : (s.setFl v).d = s.d := rfl
@[simp] theorem State.setFl_e (s : State) (v : Flags) : (s.setFl v).e = s.e := rfl
@[simp] theorem State.setFl_h (s : State) (v : Flags) : (s.setFl v).h = s.h := rfl
@[simp] theorem State.setFl_l (s : State) (v : Flags) : (s.setFl v).l = s.l := rfl
@[simp] theorem State.setFl_fl (s : State) (v : Flags) : (s.setFl v).fl = v := rfl
@[simp] theorem State.setFl_pc (s : State) (v : Flags) : (s.setFl v).pc = s.pc := rfl
@[simp] theorem State.setFl_sp (s : State) (v : Flags) : (s.setFl v).sp = s.sp := rfl
@[simp] theorem State.setFl_inte (s : State) (v : Flags) : (s.setFl v).inte = s.inte := rfl
@[simp] theorem State.setFl_run (s : State) (v : Flags) : (s.setFl v).run = s.run := rfl
@[simp] theorem State.setFl_mem (s : State) (v : Flags) : (s.setFl v).mem = s.mem := rfl
@[simp] theorem State.setFl_shiftReg (s : State) (v : Flags) : (s.setFl v).shiftReg = s.shiftReg := rfl
@[simp] theorem State.setFl_shiftAmount (s : State) (v : Flags) : (s.setFl v).shiftAmount = s.shiftAmount := rfl
@[simp] theorem State.setFl_portReads (s : State) (v : Flags) : (s.setFl v).portReads = s.portReads := rfl

@[simp] theorem State.setA_a (s : State) (v : Byte) : (s.setA v).a = v := rfl
@[simp] theorem State.setA_b (s : State) (v : Byte) : (s.setA v).b = s.b := rfl
@[simp] theorem State.setA_c (s : State) (v : Byte) : (s.setA v).c = s.c := rfl
@[simp] theorem State.setA_d (s : State) (v : Byte) : (s.setA v).d = s.d := rfl
@[simp] theorem State.setA_e (s : State) (v : Byte) : (s.setA v).e = s.e := rfl
@[simp] theorem State.setA_h (s : State) (v : Byte) : (s.setA v).h = s.h := rfl
@[simp] theorem State.setA_l (s : State) (v : Byte) : (s.setA v).l = s.l := rfl
@[simp] theorem State.setA_fl (s : State) (v : Byte) : (s.setA v).fl = s.fl := rfl
@[simp] theorem State.setA_pc (s : State) (v : Byte) : (s.setA v).pc = s.pc := rfl
@[simp] theorem State.setA_sp (s : State) (v : Byte) : (s.setA v).sp = s.sp := rfl
@[simp] theorem State.setA_inte (s : State) (v : Byte) : (s.setA v).inte = s.inte := rfl
@[simp] theorem State.setA_run (s : State) (v : Byte) : (s.setA v).run = s.run := rfl
@[simp] theorem State.setA_mem (s : State) (v : Byte) : (s.setA v).mem = s.mem := rfl
@[simp] theorem State.setA_shiftReg (s : State) (v : Byte) : (s.setA v).shiftReg = s.shiftReg := rfl
@[simp] theorem State.setA_shiftAmount (s : State) (v : Byte) : (s.setA v).shiftAmount = s.shiftAmount := rfl
@[simp] theorem State.setA_portReads (s : State) (v : Byte) : (s.setA v).portReads = s.portReads := rfl

@[simp] theorem State.setInte_a (s : State) (v : Bool) : (s.setInte v).a = s.a := rfl
@[simp] theorem State.setInte_b (s : State) (v : Bool) : (s.setInte v).b = s.b := rfl
@[simp] theorem State.setInte_c (s : State) (v : Bool) : (s.setInte v).c = s.c := rfl
@[simp] theorem State.setInte_d (s : State) (v : Bool) : (s.setInte v).d = s.d := rfl
@[simp] theorem State.setInte_e (s : State) (v : Bool) : (s.setInte v).e = s.e := rfl
@[simp] theorem State.setInte_h (s : State) (v : Bool) : (s.setInte v).h = s.h := rfl
@[simp] theorem State.setInte_l (s : State) (v : Bool) : (s.setInte v).l = s.l := rfl
@[simp] theorem State.setInte_fl (s : State) (v : Bool) : (s.setInte v).fl = s.fl := rfl
@[simp] theorem State.setInte_pc (s : State) (v : Bool) : (s.setInte v).pc = s.pc := rfl
@[simp] theorem State.setInte_sp (s : State) (v : Bool) : (s.setInte v).sp = s.sp := rfl
@[simp] theorem State.setInte_inte (s : State) (v : Bool) : (s.setInte v).inte = v := rfl
@[simp] theorem State.setInte_run (s : State) (v : Bool) : (s.setInte v).run = s.run := rfl
@[simp] theorem State.setInte_mem (s : State) (v : Bool) : (s.setInte v).mem = s.mem := rfl
@[simp] theorem State.setInte_shiftReg (s : State) (v : Bool) : (s.setInte v).shiftReg = s.shiftReg := rfl
@[simp] theorem State.setInte_shiftAmount (s : State) (v : Bool) : (s.setInte v).shiftAmount = s.shiftAmount := rfl
@[simp] theorem State.setInte_portReads (s : State) (v : Bool) : (s.setInte v).portReads = s.portReads := rfl

@[simp] theorem State.setRun_a (s : State) (v : RunState) : (s.setRun v).a = s.a := rfl
@[simp] theorem State.setRun_b (s : State) (v : RunState) : (s.setRun v).b = s.b := rfl
@[simp] theorem State.setRun_c (s : State) (v : RunState) : (s.setRun v).c = s.c := rfl
@[simp] theorem State.setRun_d (s : State) (v : RunState) : (s.setRun v).d = s.d := rfl
@[simp] theorem State.setRun_e (s : State) (v : RunState) : (s.setRun v).e = s.e := rfl
@[simp] theorem State.setRun_h (s : State) (v : RunState) : (s.setRun v).h = s.h := rfl
@[simp] theorem State.setRun_l (s : State) (v : RunState) : (s.setRun v).l = s.l := rfl
@[simp] theorem State.setRun_fl (s : State) (v : RunState) : (s.setRun v).fl = s.fl := rfl
@[simp] theorem State.setRun_pc (s : State) (v : RunState) : (s.setRun v).pc = s.pc := rfl
@[simp] theorem State.setRun_sp (s : State) (v : RunState) : (s.setRun v).sp = s.sp := rfl
@[simp] theorem State.setRun_inte (s : State) (v : RunState) : (s.setRun v).inte = s.inte := rfl
@[simp] theorem State.setRun_run (s : State) (v : RunState) : (s.setRun v).run = v := rfl
@[simp] theorem State.setRun_mem (s : State) (v : RunState) : (s.setRun v).mem = s.mem := rfl
@[simp] theorem State.setRun_shiftReg (s : State) (v : RunState) : (s.setRun v).shiftReg = s.shiftReg := rfl
@[simp] theorem State.setRun_shiftAmount (s : State) (v : RunState) : (s.setRun v).shiftAmount = s.shiftAmount := rfl
@[simp] theorem State.setRun_portReads (s : State) (v : RunState) : (s.setRun v).portReads = s.portReads := rfl

@[simp] theorem State.advance_a (s : State) (len : Nat) : (s.advance len).a = s.a := rfl
@[simp] theorem State.advance_b (s : State) (len : Nat) : (s.advance len).b = s.b := rfl
@[simp] theorem State.advance_c (s : State) (len : Nat) : (s.advance len).c = s.c := rfl
@[simp] theorem State.advance_d (s : State) (len : Nat) : (s.advance len).d = s.d := rfl
@[simp] theorem State.advance_e (s : State) (len : Nat) : (s.advance len).e = s.e := rfl
@[simp] theorem State.advance_h (s : State) (len : Nat) : (s.advance len).h = s.h := rfl
@[simp] theorem State.advance_l (s : State) (len : Nat) : (s.advance len).l = s.l := rfl
@[simp] theorem State.advance_fl (s : State) (len : Nat) : (s.advance len).fl = s.fl := rfl
@[simp] theorem State.advance_pc (s : State) (len : Nat) : (s.advance len).pc = s.nextPc len := rfl
@[simp] theorem State.advance_sp (s : State) (len : Nat) : (s.advance len).sp = s.sp := rfl
@[simp] theorem State.advance_inte (s : State) (len : Nat) : (s.advance len).inte = s.inte := rfl
@[simp] theorem State.advance_run (s : State) (len : Nat) : (s.advance len).run = s.run := rfl
@[simp] theorem State.advance_mem (s : State) (len : Nat) : (s.advance len).mem = s.mem := rfl
@[simp] theorem State.advance_shiftReg (s : State) (len : Nat) : (s.advance len).shiftReg = s.shiftReg := rfl
@[simp] theorem State.advance_shiftAmount (s : State) (len : Nat) : (s.advance len).shiftAmount = s.shiftAmount := rfl
@[simp] theorem State.advance_portReads (s : State) (len : Nat) : (s.advance len).portReads = s.portReads := rfl

@[simp] theorem State.write8_a (s : State) (addr : Word) (v : Byte) : (s.write8 addr v).a = s.a := rfl
@[simp] theorem State.write8_b (s : State) (addr : Word) (v : Byte) : (s.write8 addr v).b = s.b := rfl
@[simp] theorem State.write8_c (s : State) (addr : Word) (v : Byte) : (s.write8 addr v).c = s.c := rfl
@[simp] theorem State.write8_d (s : State) (addr : Word) (v : Byte) : (s.write8 addr v).d = s.d := rfl
@[simp] theorem State.write8_e (s : State) (addr : Word) (v : Byte) : (s.write8 addr v).e = s.e := rfl
@[simp] theorem State.write8_h (s : State) (addr : Word) (v : Byte) : (s.write8 addr v).h = s.h := rfl
@[simp] theorem State.write8_l (s : State) (addr : Word) (v : Byte) : (s.write8 addr v).l = s.l := rfl
@[simp] theorem State.write8_fl (s : State) (addr : Word) (v : Byte) : (s.write8 addr v).fl = s.fl := rfl
@[simp] theorem State.write8_pc (s : State) (addr : Word) (v : Byte) : (s.write8 addr v).pc = s.pc := rfl
@[simp] theorem State.write8_sp (s : State) (addr : Word) (v : Byte) : (s.write8 addr v).sp = s.sp := rfl
@[simp] theorem State.write8_inte (s : State) (addr : Word) (v : Byte) : (s.write8 addr v).inte = s.inte := rfl
@[simp] theorem State.write8_run (s : State) (addr : Word) (v : Byte) : (s.write8 addr v).run = s.run := rfl
@[simp] theorem State.write8_mem (s : State) (addr : Word) (v : Byte) : (s.write8 addr v).mem = s.mem.write addr.toNat v := rfl
@[simp] theorem State.write8_shiftReg (s : State) (addr : Word) (v : Byte) : (s.write8 addr v).shiftReg = s.shiftReg := rfl
@[simp] theorem State.write8_shiftAmount (s : State) (addr : Word) (v : Byte) : (s.write8 addr v).shiftAmount = s.shiftAmount := rfl
@[simp] theorem State.write8_portReads (s : State) (addr : Word) (v : Byte) : (s.write8 addr v).portReads = s.portReads := rfl

@[simp] theorem State.write16_a (s : State) (addr : Word) (v : Word) : (s.write16 addr v).a = s.a := rfl
@[simp] theorem State.write16_b (s : State) (addr : Word) (v : Word) : (s.write16 addr v).b = s.b := rfl
@[simp] theorem State.write16_c (s : State) (addr : Word) (v : Word) : (s.write16 addr v).c = s.c := rfl
@[simp] theorem State.write16_d (s : State) (addr : Word) (v : Word) : (s.write16 addr v).d = s.d := rfl
@[simp] theorem State.write16_e (s : State) (addr : Word) (v : Word) : (s.write16 addr v).e = s.e := rfl
@[simp] theorem State.write16_h (s : State) (addr : Word) (v : Word) : (s.write16 addr v).h = s.h := rfl
@[simp] theorem State.write16_l (s : State) (addr : Word) (v : Word) : (s.write16 addr v).l = s.l := rfl
@[simp] theorem State.write16_fl (s : State) (addr : Word) (v : Word) : (s.write16 addr v).fl = s.fl := rfl
@[simp] theorem State.write16_pc (s : State) (addr : Word) (v : Word) : (s.write16 addr v).pc = s.pc := rfl
@[simp] theorem State.write16_sp (s : State) (addr : Word) (v : Word) : (s.write16 addr v).sp = s.sp := rfl
@[simp] theorem State.write16_inte (s : State) (addr : Word) (v : Word) : (s.write16 addr v).inte = s.inte := rfl
@[simp] theorem State.write16_run (s : State) (addr : Word) (v : Word) : (s.write16 addr v).run = s.run := rfl
@[simp] theorem State.write16_mem (s : State) (addr : Word) (v : Word) : (s.write16 addr v).mem = (s.mem.write addr.toNat (loByte v)).write (addr + 1).toNat (hiByte v) := rfl
@[simp] theorem State.write16_shiftReg (s : State) (addr : Word) (v : Word) : (s.write16 addr v).shiftReg = s.shiftReg := rfl
@[simp] theorem State.write16_shiftAmount (s : State) (addr : Word) (v : Word) : (s.write16 addr v).shiftAmount = s.shiftAmount := rfl
@[simp] theorem State.write16_portReads (s : State) (addr : Word) (v : Word) : (s.write16 addr v).portReads = s.portReads := rfl

@[simp] theorem State.push16_a (s : State) (v : Word) : (s.push16 v).a = s.a := rfl
@[simp] theorem State.push16_b (s : State) (v : Word) : (s.push16 v).b = s.b := rfl
@[simp] theorem State.push16_c (s : State) (v : Word) : (s.push16 v).c = s.c := rfl
@[simp] theorem State.push16_d (s : State) (v : Word) : (s.push16 v).d = s.d := rfl
@[simp] theorem State.push16_e (s : State) (v : Word) : (s.push16 v).e = s.e := rfl
@[simp] theorem State.push16_h (s : State) (v : Word) : (s.push16 v).h = s.h := rfl
@[simp] theorem State.push16_l (s : State) (v : Word) : (s.push16 v).l = s.l := rfl
@[simp] theorem State.push16_fl (s : State) (v : Word) : (s.push16 v).fl = s.fl := rfl
@[simp] theorem State.push16_pc (s : State) (v : Word) : (s.push16 v).pc = s.pc := rfl
@[simp] theorem State.push16_sp (s : State) (v : Word) : (s.push16 v).sp = s.sp - 2 := rfl
@[simp] theorem State.push16_inte (s : State) (v : Word) : (s.push16 v).inte = s.inte := rfl
@[simp] theorem State.push16_run (s : State) (v : Word) : (s.push16 v).run = s.run := rfl
@[simp] theorem State.push16_mem (s : State) (v : Word) : (s.push16 v).mem = (s.mem.write (s.sp - 1).toNat (hiByte v)).write (s.sp - 2).toNat (loByte v) := rfl
@[simp] theorem State.push16_shiftReg (s : State) (v : Word) : (s.push16 v).shiftReg = s.shiftReg := rfl
@[simp] theorem State.push16_shiftAmount (s : State) (v : Word) : (s.push16 v).shiftAmount = s.shiftAmount := rfl
@[simp] theorem State.push16_portReads (s : State) (v : Word) : (s.push16 v).portReads = s.portReads := rfl

@[simp] theorem State.drop16_a (s : State) : (s.drop16).a = s.a := rfl
@[simp] theorem State.drop16_b (s : State) : (s.drop16).b = s.b := rfl
@[simp] theorem State.drop16_c (s : State) : (s.drop16).c = s.c := rfl
@[simp] theorem State.drop16_d (s : State) : (s.drop16).d = s.d := rfl
@[simp] theorem State.drop16_e (s : State) : (s.drop16).e = s.e := rfl
@[simp] theorem State.drop16_h (s : State) : (s.drop16).h = s.h := rfl
@[simp] theorem State.drop16_l (s : State) : (s.drop16).l = s.l := rfl
@[simp] theorem State.drop16_fl (s : State) : (s.drop16).fl = s.fl := rfl
@[simp] theorem State.drop16_pc (s : State) : (s.drop16).pc = s.pc := rfl
@[simp] theorem State.drop16_sp (s : State) : (s.drop16).sp = s.sp + 2 := rfl
@[simp] theorem State.drop16_inte (s : State) : (s.drop16).inte = s.inte := rfl
@[simp] theorem State.drop16_run (s : State) : (s.drop16).run = s.run := rfl
@[simp] theorem State.drop16_mem (s : State) : (s.drop16).mem = s.mem := rfl
@[simp] theorem State.drop16_shiftReg (s : State) : (s.drop16).shiftReg = s.shiftReg := rfl
@[simp] theorem State.drop16_shiftAmount (s : State) : (s.drop16).shiftAmount = s.shiftAmount := rfl
@[simp] theorem State.drop16_portReads (s : State) : (s.drop16).portReads = s.portReads := rfl

@[simp] theorem State.countPortRead_a (s : State) : (s.countPortRead).a = s.a := rfl
@[simp] theorem State.countPortRead_b (s : State) : (s.countPortRead).b = s.b := rfl
@[simp] theorem State.countPortRead_c (s : State) : (s.countPortRead).c = s.c := rfl
@[simp] theorem State.countPortRead_d (s : State) : (s.countPortRead).d = s.d := rfl
@[simp] theorem State.countPortRead_e (s : State) : (s.countPortRead).e = s.e := rfl
@[simp] theorem State.countPortRead_h (s : State) : (s.countPortRead).h = s.h := rfl
@[simp] theorem State.countPortRead_l (s : State) : (s.countPortRead).l = s.l := rfl
@[simp] theorem State.countPortRead_fl (s : State) : (s.countPortRead).fl = s.fl := rfl
@[simp] theorem State.countPortRead_pc (s : State) : (s.countPortRead).pc = s.pc := rfl
@[simp] theorem State.countPortRead_sp (s : State) : (s.countPortRead).sp = s.sp := rfl
@[simp] theorem State.countPortRead_inte (s : State) : (s.countPortRead).inte = s.inte := rfl
@[simp] theorem State.countPortRead_run (s : State) : (s.countPortRead).run = s.run := rfl
@[simp] theorem State.countPortRead_mem (s : State) : (s.countPortRead).mem = s.mem := rfl
@[simp] theorem State.countPortRead_shiftReg (s : State) : (s.countPortRead).shiftReg = s.shiftReg := rfl
@[simp] theorem State.countPortRead_shiftAmount (s : State) : (s.countPortRead).shiftAmount = s.shiftAmount := rfl
@[simp] theorem State.countPortRead_portReads (s : State) : (s.countPortRead).portReads = s.portReads + 1 := rfl

@[simp] theorem State.raiseUnsupported_a (s : State) : (s.raiseUnsupported).a = s.a := rfl
@[simp] theorem State.raiseUnsupported_b (s : State) : (s.raiseUnsupported).b = s.b := rfl
@[simp] theorem State.raiseUnsupported_c (s : State) : (s.raiseUnsupported).c = s.c := rfl
@[simp] theorem State.raiseUnsupported_d (s : State) : (s.raiseUnsupported).d = s.d := rfl
@[simp] theorem State.raiseUnsupported_e (s : State) : (s.raiseUnsupported).e = s.e := rfl
@[simp] theorem State.raiseUnsupported_h (s : State) : (s.raiseUnsupported).h = s.h := rfl
@[simp] theorem State.raiseUnsupported_l (s : State) : (s.raiseUnsupported).l = s.l := rfl
@[simp] theorem State.raiseUnsupported_fl (s : State) : (s.raiseUnsupported).fl = s.fl := rfl
@[simp] theorem State.raiseUnsupported_pc (s : State) : (s.raiseUnsupported).pc = s.pc := rfl
@[simp] theorem State.raiseUnsupported_sp (s : State) : (s.raiseUnsupported).sp = s.sp := rfl
@[simp] theorem State.raiseUnsupported_inte (s : State) : (s.raiseUnsupported).inte = s.inte := rfl
@[simp] theorem State.raiseUnsupported_run (s : State) : (s.raiseUnsupported).run = .faulted := rfl
@[simp] theorem State.raiseUnsupported_mem (s : State) : (s.raiseUnsupported).mem = s.mem := rfl
@[simp] theorem State.raiseUnsupported_shiftReg (s : State) : (s.raiseUnsupported).shiftReg = s.shiftReg := rfl
@[simp] theorem State.raiseUnsupported_shiftAmount (s : State) : (s.raiseUnsupported).shiftAmount = s.shiftAmount := rfl
@[simp] theorem State.raiseUnsupported_portReads (s : State) : (s.raiseUnsupported).portReads = s.portReads := rfl

@[simp] theorem State.setReg8_fl (s : State) (r : Reg8) (v : Byte) : (s.setReg8 r v).fl = s.fl := by cases r <;> rfl
@[simp] theorem State.setReg8_pc (s : State) (r : Reg8) (v : Byte) : (s.setReg8 r v).pc = s.pc := by cases r <;> rfl
@[simp] theorem State.setReg8_sp (s : State) (r : Reg8) (v : Byte) : (s.setReg8 r v).sp = s.sp := by cases r <;> rfl
@[simp] theorem State.setReg8_inte (s : State) (r : Reg8) (v : Byte) : (s.setReg8 r v).inte = s.inte := by cases r <;> rfl
@[simp] theorem State.setReg8_run (s : State) (r : Reg8) (v : Byte) : (s.setReg8 r v).run = s.run := by cases r <;> rfl
@[simp] theorem State.setReg8_shiftReg (s : State) (r : Reg8) (v : Byte) : (s.setReg8 r v).shiftReg = s.shiftReg := by cases r <;> rfl
@[simp] theorem State.setReg8_shiftAmount (s : State) (r : Reg8) (v : Byte) : (s.setReg8 r v).shiftAmount = s.shiftAmount := by cases r <;> rfl
@[simp] theorem State.setReg8_portReads (s : State) (r : Reg8) (v : Byte) : (s.setReg8 r v).portReads = s.portReads := by cases r <;> rfl

@[simp] theorem State.setPair_a (s : State) (r : Pair) (v : Word) : (s.setPair r v).a = s.a := by cases r <;> rfl
@[simp] theorem State.setPair_fl (s : State) (r : Pair) (v : Word) : (s.setPair r v).fl = s.fl := by cases r <;> rfl
@[simp] theorem State.setPair_pc (s : State) (r : Pair) (v : Word) : (s.setPair r v).pc = s.pc := by cases r <;> rfl
@[simp] theorem State.setPair_inte (s : State) (r : Pair) (v : Word) : (s.setPair r v).inte = s.inte := by cases r <;> rfl
@[simp] theorem State.setPair_run (s : State) (r : Pair) (v : Word) : (s.setPair r v).run = s.run := by cases r <;> rfl
@[simp] theorem State.setPair_mem (s : State) (r : Pair) (v : Word) : (s.setPair r v).mem = s.mem := by cases r <;> rfl
@[simp] theorem State.setPair_shiftReg (s : State) (r : Pair) (v : Word) : (s.setPair r v).shiftReg = s.shiftReg := by cases r <;> rfl
@[simp] theorem State.setPair_shiftAmount (s : State) (r : Pair) (v : Word) : (s.setPair r v).shiftAmount = s.shiftAmount := by cases r <;> rfl
@[simp] theorem State.setPair_portReads (s : State) (r : Pair) (v : Word) : (s.setPair r v).portReads = s.portReads := by cases r <;> rfl

@[simp] theorem State.setStackPair_pc (s : State) (r : StackPair) (v : Word) : (s.setStackPair r v).pc = s.pc := by cases r <;> rfl
@[simp] theorem State.setStackPair_sp (s : State) (r : StackPair) (v : Word) : (s.setStackPair r v).sp = s.sp := by cases r <;> rfl
@[simp] theorem State.setStackPair_inte (s : State) (r : StackPair) (v : Word) : (s.setStackPair r v).inte = s.inte := by cases r <;> rfl
@[simp] theorem State.setStackPair_run (s : State) (r : StackPair) (v : Word) : (s.setStackPair r v).run = s.run := by cases r <;> rfl
@[simp] theorem State.setStackPair_mem (s : State) (r : StackPair) (v : Word) : (s.setStackPair r v).mem = s.mem := by cases r <;> rfl
@[simp] theorem State.setStackPair_shiftReg (s : State) (r : StackPair) (v : Word) : (s.setStackPair r v).shiftReg = s.shiftReg := by cases r <;> rfl
@[simp] theorem State.setStackPair_shiftAmount (s : State) (r : StackPair) (v : Word) : (s.setStackPair r v).shiftAmount = s.shiftAmount := by cases r <;> rfl
@[simp] theorem State.setStackPair_portReads (s : State) (r : StackPair) (v : Word) : (s.setStackPair r v).portReads = s.portReads := by cases r <;> rfl

end Sys2Proof.Machine
end

