-- ==== Sys2Proof/Laws/Memory.lean ====
section
/-! SUPPORT. The laws of memory: a write is seen at its address and nowhere else, in every memory; every operation that writes
keeps the canonical form. -/

namespace Sys2Proof.Machine

/-! ### Reading after writing -/

theorem Memory.read_erase (m : Memory) (a b : Nat) :
    (m.erase a).read b = if b = a then 0x00#8 else m.read b := by
  induction m with
  | nil => simp [Memory.erase, Memory.read]
  | cons c t ih =>
    obtain ⟨k, v⟩ := c
    by_cases hk : k = a <;> by_cases hb : b = a <;> by_cases hkb : k = b <;>
      simp_all [Memory.erase, Memory.read]

theorem Memory.read_insert (m : Memory) (a : Nat) (v : Byte) (b : Nat) (h : m.read a = 0x00#8)
    (hm : ∀ c ∈ m, c.1 ≠ a) : (m.insert a v).read b = if b = a then v else m.read b := by
  induction m with
  | nil => simp [Memory.insert, Memory.read, eq_comm]
  | cons c t ih =>
    obtain ⟨k, w⟩ := c
    have hk : k ≠ a := hm (k, w) (by simp)
    have ht := ih (by simpa [Memory.read, hk] using h) (fun c hc => hm c (by simp [hc]))
    simp only [Memory.insert]
    split
    · simp only [Memory.read]
      by_cases hb : a = b
      · simp [hb]
      · simp [hb, Ne.symm hb]
    · simp only [Memory.read, ht]
      by_cases hb : b = a
      · simp [hb, hk]
      · simp [hb]

theorem Memory.erase_keys (m : Memory) (a : Nat) : ∀ c ∈ m.erase a, c.1 ≠ a := by
  induction m with
  | nil => simp [Memory.erase]
  | cons c t ih =>
    obtain ⟨k, v⟩ := c
    simp only [Memory.erase]
    split
    · exact ih
    · rintro c hc
      rcases List.mem_cons.mp hc with rfl | hc
      · assumption
      · exact ih c hc

/-- A byte written is read back, and no other byte changes. -/
theorem Memory.read_write (m : Memory) (a : Nat) (v : Byte) (b : Nat) :
    (m.write a v).read b = if b = a then v else m.read b := by
  simp only [Memory.write]
  split
  · subst v; exact Memory.read_erase m a b
  · rw [Memory.read_insert _ _ _ _ (by simp [Memory.read_erase]) (Memory.erase_keys m a), Memory.read_erase]
    split <;> rfl

/-! ### The canonical form -/

theorem Memory.wfFrom_mono {lo lo' : Nat} {m : Memory} (h : lo' ≤ lo) (hm : Memory.wfFrom lo m = true) :
    Memory.wfFrom lo' m = true := by
  cases m with
  | nil => rfl
  | cons c t =>
    obtain ⟨k, v⟩ := c
    simp only [Memory.wfFrom, Bool.and_eq_true, decide_eq_true_eq] at hm ⊢
    exact ⟨⟨⟨h.trans hm.1.1.1, hm.1.1.2⟩, hm.1.2⟩, hm.2⟩

theorem Memory.wfFrom_erase {lo : Nat} {m : Memory} (a : Nat) (h : Memory.wfFrom lo m = true) :
    Memory.wfFrom lo (m.erase a) = true := by
  induction m generalizing lo with
  | nil => rfl
  | cons c t ih =>
    obtain ⟨k, v⟩ := c
    simp only [Memory.wfFrom, Bool.and_eq_true, decide_eq_true_eq] at h
    simp only [Memory.erase]
    split
    · exact Memory.wfFrom_mono (by omega) (ih h.2)
    · simp [Memory.wfFrom, h.1.1.1, h.1.1.2, h.1.2, ih h.2]

theorem Memory.wfFrom_insert {lo : Nat} {m : Memory} {a : Nat} {v : Byte} (h : Memory.wfFrom lo m = true) (hlo : lo ≤ a)
    (ha : a < 65536) (hv : v ≠ 0x00#8) (hm : ∀ c ∈ m, c.1 ≠ a) : Memory.wfFrom lo (m.insert a v) = true := by
  induction m generalizing lo with
  | nil => simp [Memory.insert, Memory.wfFrom, hlo, ha, hv]
  | cons c t ih =>
    obtain ⟨k, w⟩ := c
    have hk : k ≠ a := hm (k, w) (by simp)
    simp only [Memory.wfFrom, Bool.and_eq_true, decide_eq_true_eq] at h
    simp only [Memory.insert]
    split
    · simp only [Memory.wfFrom, Bool.and_eq_true, decide_eq_true_eq]
      exact ⟨⟨⟨hlo, ha⟩, by simpa using hv⟩, ⟨⟨by omega, h.1.1.2⟩, h.1.2⟩, h.2⟩
    · simp only [Memory.wfFrom, Bool.and_eq_true, decide_eq_true_eq]
      exact ⟨h.1, ih h.2 (by omega) (fun c hc => hm c (by simp [hc]))⟩

/-- A write keeps the canonical form. -/
theorem Memory.wf_write {m : Memory} {a : Nat} (v : Byte) (h : m.wf = true) (ha : a < 65536) : (m.write a v).wf = true := by
  simp only [Memory.write, Memory.wf] at *
  split
  · exact Memory.wfFrom_erase a h
  · exact Memory.wfFrom_insert (Memory.wfFrom_erase a h) (Nat.zero_le _) ha ‹_› (Memory.erase_keys m a)

/-! ### The core's accesses -/

/-- `MemWrite(a, 1, v)` then `MemRead(b, 1)`. -/
theorem State.read8_write8 (s : State) (a b : Word) (v : Byte) :
    (s.write8 a v).read8 b = if b = a then v else s.read8 b := by
  simp only [State.read8, State.write8_mem, Memory.read_write, BitVec.toNat_inj]

theorem add_one_ne (a : Word) : a + 1 ≠ a := by simp

theorem sub_one_ne_sub_two (a : Word) : a - 1 ≠ a - 2 := by simp

/-- `MemWrite(a, 2, v)`, then one byte read: the low byte at `a`, the high byte at `a + 1`. -/
theorem State.read8_write16 (s : State) (a b : Word) (v : Word) :
    (s.write16 a v).read8 b = if b = a + 1 then hiByte v else if b = a then loByte v else s.read8 b := by
  simp only [State.write16, State.read8_write8]

/-- `Push16(v)`, then one byte read: the high byte at `sp - 1`, the low byte at `sp - 2`. -/
theorem State.read8_push16 (s : State) (b : Word) (v : Word) :
    (s.push16 v).read8 b = if b = s.sp - 2 then loByte v else if b = s.sp - 1 then hiByte v else s.read8 b := by
  show ((s.write8 (s.sp - 1) (hiByte v)).write8 (s.sp - 2) (loByte v)).read8 b = _
  simp only [State.read8_write8]

@[simp] theorem State.read8_setPc (s : State) (v b : Word) : (s.setPc v).read8 b = s.read8 b := rfl
@[simp] theorem State.read8_setSp (s : State) (v b : Word) : (s.setSp v).read8 b = s.read8 b := rfl
@[simp] theorem State.read8_setFl (s : State) (v : Flags) (b : Word) : (s.setFl v).read8 b = s.read8 b := rfl
@[simp] theorem State.read8_setA (s : State) (v : Byte) (b : Word) : (s.setA v).read8 b = s.read8 b := rfl
@[simp] theorem State.read8_setInte (s : State) (v : Bool) (b : Word) : (s.setInte v).read8 b = s.read8 b := rfl
@[simp] theorem State.read8_setRun (s : State) (v : RunState) (b : Word) : (s.setRun v).read8 b = s.read8 b := rfl
@[simp] theorem State.read8_advance (s : State) (n : Nat) (b : Word) : (s.advance n).read8 b = s.read8 b := rfl
@[simp] theorem State.read8_drop16 (s : State) (b : Word) : s.drop16.read8 b = s.read8 b := rfl
@[simp] theorem State.read8_countPortRead (s : State) (b : Word) : s.countPortRead.read8 b = s.read8 b := rfl
@[simp] theorem State.read8_setPair (s : State) (r : Pair) (v : Word) (b : Word) : (s.setPair r v).read8 b = s.read8 b := by
  cases r <;> rfl
@[simp] theorem State.read8_setStackPair (s : State) (r : StackPair) (v : Word) (b : Word) :
    (s.setStackPair r v).read8 b = s.read8 b := by
  cases r <;> rfl

theorem State.write8_wf {s : State} (a : Word) (v : Byte) (h : s.mem.wf = true) : (s.write8 a v).mem.wf = true :=
  Memory.wf_write v h a.isLt

theorem State.write16_wf {s : State} (a : Word) (v : Word) (h : s.mem.wf = true) : (s.write16 a v).mem.wf = true :=
  State.write8_wf _ _ (State.write8_wf _ _ h)

theorem State.push16_wf {s : State} (v : Word) (h : s.mem.wf = true) : (s.push16 v).mem.wf = true :=
  State.write8_wf (s := s.write8 (s.sp - 1) (hiByte v)) _ _ (State.write8_wf _ _ h)

theorem State.loadBytes_wf {s : State} (bytes : List Byte) (offset : Word) (h : s.mem.wf = true) :
    (s.loadImage bytes offset).mem.wf = true := by
  induction bytes generalizing s offset with
  | nil => exact h
  | cons v t ih => exact ih _ (State.write8_wf _ _ h)

/-- SetReg8 through M keeps the canonical form; through a register it leaves memory. -/
theorem State.setReg8_wf {s : State} (r : Reg8) (v : Byte) (h : s.mem.wf = true) : (s.setReg8 r v).mem.wf = true := by
  cases r
  case m => exact State.write8_wf _ _ h
  all_goals exact h

end Sys2Proof.Machine
end

