-- ==== Sys2Proof/Laws/Alu.lean ====
section
/-! SUPPORT. What each arithmetic operation answers, in numbers: one lemma per operation, cited instead of unfolding it. -/

namespace Sys2Proof.Machine

theorem byte_eq_zero_iff (x : Byte) : x = 0x00#8 ↔ x.toNat = 0 := BitVec.toNat_inj.symm

theorem byte_bit7 (x : Byte) : x.getLsbD 7 = decide (x.toNat ≥ 128) := by
  have h := BitVec.msb_eq_decide x
  rw [BitVec.msb_eq_getLsbD_last] at h
  exact h

theorem byte_ofNat_mod (n : Nat) : BitVec.ofNat 8 (n % 256) = BitVec.ofNat 8 n := BitVec.eq_of_toNat_eq (by simp)

/-- The flags of an 8-bit result given as a number. -/
theorem decide_zero_ofNat (n : Nat) : decide (BitVec.ofNat 8 n = 0x00#8) = decide (n % 256 = 0) := by
  simp [byte_eq_zero_iff]

theorem bit7_ofNat (n : Nat) : (BitVec.ofNat 8 n).getLsbD 7 = decide (n % 256 ≥ 128) := by
  rw [byte_bit7, BitVec.toNat_ofNat]

/-- `Add8` in numbers. -/
theorem add8_spec (a v : Byte) (cin : Bool) :
    add8 a v cin =
      let sum := a.toNat + v.toNat + cin.toNat
      (BitVec.ofNat 8 sum,
       { z := decide (sum % 256 = 0), s := decide (sum % 256 ≥ 128), p := parity8 (BitVec.ofNat 8 sum),
         c := decide (sum > 255), ac := decide (a.toNat % 16 + v.toNat % 16 + cin.toNat > 15) }) := by
  simp only [add8, lowNibble, decide_zero_ofNat, bit7_ofNat]
  rfl

/-- `Sub8` in numbers. -/
theorem sub8_spec (a v : Byte) (bin : Bool) :
    sub8 a v bin =
      let res := (a.toNat + 512 - v.toNat - bin.toNat) % 256
      (BitVec.ofNat 8 res,
       { z := decide (res = 0), s := decide (res ≥ 128), p := parity8 (BitVec.ofNat 8 res),
         c := decide (a.toNat < v.toNat + bin.toNat), ac := decide (a.toNat % 16 ≥ v.toNat % 16 + bin.toNat) }) := by
  have ha := a.isLt
  have hv := v.isLt
  have hb := Bool.toNat_lt bin
  have hres : BitVec.ofInt 8 ((a.toNat : Int) - v.toNat - bin.toNat) =
      BitVec.ofNat 8 ((a.toNat + 512 - v.toNat - bin.toNat) % 256) := by
    apply BitVec.eq_of_toNat_eq
    rw [BitVec.toNat_ofInt, BitVec.toNat_ofNat]
    omega
  have hneg : (a.toNat : Int) - v.toNat - bin.toNat < 0 ↔ a.toNat < v.toNat + bin.toNat := by omega
  simp only [sub8, lowNibble, hres, hneg, decide_zero_ofNat, bit7_ofNat, Nat.mod_mod]
  rfl

/-- INR in numbers. -/
theorem inr8_spec (v : Byte) (fl : Flags) :
    inr8 v fl =
      let res := (v.toNat + 1) % 256
      (BitVec.ofNat 8 res,
       { z := decide (res = 0), s := decide (res ≥ 128), p := parity8 (BitVec.ofNat 8 res), c := fl.c,
         ac := decide (v.toNat % 16 = 15) }) := by
  have hres : v + 1 = BitVec.ofNat 8 ((v.toNat + 1) % 256) := BitVec.eq_of_toNat_eq (by simp [BitVec.toNat_add])
  simp only [inr8, Flags.setZSP, lowNibble, hres, decide_zero_ofNat, bit7_ofNat, Nat.mod_mod]
  rfl

/-- DCR in numbers. -/
theorem dcr8_spec (v : Byte) (fl : Flags) :
    dcr8 v fl =
      let res := (v.toNat + 255) % 256
      (BitVec.ofNat 8 res,
       { z := decide (res = 0), s := decide (res ≥ 128), p := parity8 (BitVec.ofNat 8 res), c := fl.c,
         ac := decide (v.toNat % 16 ≠ 0) }) := by
  have hres : v - 1 = BitVec.ofNat 8 ((v.toNat + 255) % 256) :=
    BitVec.eq_of_toNat_eq (by simp [BitVec.toNat_sub]; omega)
  simp only [dcr8, Flags.setZSP, lowNibble, hres, decide_zero_ofNat, bit7_ofNat, Nat.mod_mod]
  rfl

/-- DAD in numbers. -/
theorem dad16_spec (hl v : Word) (fl : Flags) :
    dad16 hl v fl = (hl + v, { fl with c := decide (hl.toNat + v.toNat ≥ 65536) }) := by
  simp only [dad16, BitVec.ofNat_add, BitVec.ofNat_toNat, BitVec.setWidth_eq]
  rfl

/-- The value on top of the stack right after `Push16` is the value pushed. -/
theorem State.top16_push16 (s : State) (v : Word) : (s.push16 v).top16 = v := by
  have h : s.sp - 2 + 1 = s.sp - 1 := by bv_omega
  show joinBytes ((s.push16 v).read8 (s.sp - 2 + 1)) ((s.push16 v).read8 (s.sp - 2)) = v
  rw [h, State.read8_push16, State.read8_push16, if_neg (sub_one_ne_sub_two _), if_pos rfl, if_pos rfl,
    joinBytes_hiByte_loByte]

end Sys2Proof.Machine
end

