-- ==== Sys2Proof/Laws/Frame.lean ====
section
/-! SUPPORT. What each shared operation leaves alone, as `Frame` lemmas that compose: an instruction's frame is the frame of its
operations, one after the other. -/

namespace Sys2Proof.Machine

variable {rs : List Reg8} {as : List Word} {s t : State}

theorem Frame.refl (rs : List Reg8) (as : List Word) (s : State) : Frame rs as s s :=
  ⟨fun _ _ _ => rfl, fun _ _ => rfl, rfl, rfl, rfl, rfl, rfl⟩

theorem Frame.setPc (h : Frame rs as s t) (v : Word) : Frame rs as s (t.setPc v) :=
  ⟨fun r hr hm => by rw [← h.regs r hr hm]; cases r <;> rfl, h.mem, h.inte, h.run, h.shiftReg, h.shiftAmount, h.portReads⟩

theorem Frame.advance (h : Frame rs as s t) (len : Nat) : Frame rs as s (t.advance len) := h.setPc _

theorem Frame.setSp (h : Frame rs as s t) (v : Word) : Frame rs as s (t.setSp v) :=
  ⟨fun r hr hm => by rw [← h.regs r hr hm]; cases r <;> rfl, h.mem, h.inte, h.run, h.shiftReg, h.shiftAmount, h.portReads⟩

theorem Frame.setFl (h : Frame rs as s t) (v : Flags) : Frame rs as s (t.setFl v) :=
  ⟨fun r hr hm => by rw [← h.regs r hr hm]; cases r <;> rfl, h.mem, h.inte, h.run, h.shiftReg, h.shiftAmount, h.portReads⟩

theorem Frame.setA (h : Frame rs as s t) (v : Byte) (ha : .a ∈ rs) : Frame rs as s (t.setA v) :=
  ⟨fun r hr hm => by
    rw [← h.regs r hr hm]
    cases r <;> first | rfl | exact absurd ha hm,
   h.mem, h.inte, h.run, h.shiftReg, h.shiftAmount, h.portReads⟩

theorem Frame.write8 (h : Frame rs as s t) (addr : Word) (v : Byte) (ha : addr ∈ as) : Frame rs as s (t.write8 addr v) :=
  ⟨fun r hr hm => by
    rw [← h.regs r hr hm]
    cases r <;> first | rfl | exact absurd rfl hr,
   fun b hb => by
    have hne : b ≠ addr := fun e => hb (e ▸ ha)
    rw [State.read8_write8, if_neg hne]
    exact h.mem b hb,
   h.inte, h.run, h.shiftReg, h.shiftAmount, h.portReads⟩

theorem Frame.write16 (h : Frame rs as s t) (addr : Word) (v : Word) (h0 : addr ∈ as) (h1 : addr + 1 ∈ as) :
    Frame rs as s (t.write16 addr v) :=
  (h.write8 _ _ h0).write8 _ _ h1

theorem Frame.push16 (h : Frame rs as s t) (v : Word) (h1 : t.sp - 1 ∈ as) (h2 : t.sp - 2 ∈ as) :
    Frame rs as s (t.push16 v) :=
  ((h.write8 _ _ h1).write8 _ _ h2).setSp _

theorem Frame.setPair (h : Frame rs as s t) (rp : Pair) (v : Word) (hr : ∀ r ∈ pairRegs rp, r ∈ rs) :
    Frame rs as s (t.setPair rp v) :=
  ⟨fun r hm hn => by
    rw [← h.regs r hm hn]
    cases rp <;> cases r <;> first | rfl | exact absurd rfl hm | exact absurd (hr _ (by decide)) hn,
   fun b hb => by rw [State.read8_setPair]; exact h.mem b hb,
   by rw [State.setPair_inte]; exact h.inte, by rw [State.setPair_run]; exact h.run,
   by rw [State.setPair_shiftReg]; exact h.shiftReg, by rw [State.setPair_shiftAmount]; exact h.shiftAmount,
   by rw [State.setPair_portReads]; exact h.portReads⟩

theorem Frame.setStackPair (h : Frame rs as s t) (rp : StackPair) (v : Word) (hr : ∀ r ∈ stackRegs rp, r ∈ rs) :
    Frame rs as s (t.setStackPair rp v) :=
  ⟨fun r hm hn => by
    rw [← h.regs r hm hn]
    cases rp <;> cases r <;> first | rfl | exact absurd rfl hm | exact absurd (hr _ (by decide)) hn,
   fun b hb => by rw [State.read8_setStackPair]; exact h.mem b hb,
   by rw [State.setStackPair_inte]; exact h.inte, by rw [State.setStackPair_run]; exact h.run,
   by rw [State.setStackPair_shiftReg]; exact h.shiftReg, by rw [State.setStackPair_shiftAmount]; exact h.shiftAmount,
   by rw [State.setStackPair_portReads]; exact h.portReads⟩

/-- SetReg8 changes its one destination, a register or the byte at HL. -/
theorem frame_setReg8 (s : State) (r : Reg8) (v : Byte) : Frame (destRegs r) (destAddrs r s) s (s.setReg8 r v) := by
  by_cases hm : r = .m
  · subst hm
    exact (Frame.refl _ _ s).write8 _ _ (by simp [destAddrs, State.hl, State.pair])
  · refine ⟨fun q hq hn => ?_, fun b _ => ?_, ?_, ?_, ?_, ?_, ?_⟩
    · cases q <;> cases r <;> simp_all [destRegs, State.reg8, State.setReg8]
    · cases r <;> first | rfl | exact absurd rfl hm
    all_goals simp

/-! ### What is read back -/

/-- A register written holds the value; for M see `read8_setReg8_m`. -/
theorem State.reg8_setReg8 (s : State) (r : Reg8) (v : Byte) (h : r ≠ .m) : (s.setReg8 r v).reg8 r = v := by
  cases r <;> first | rfl | exact absurd rfl h

theorem State.read8_setReg8_m (s : State) (v : Byte) : (s.setReg8 .m v).read8 (s.pair .hl) = v := by
  show (s.write8 s.hl v).read8 s.hl = v
  rw [State.read8_write8, if_pos rfl]

@[simp] theorem State.pair_setPair (s : State) (rp : Pair) (v : Word) : (s.setPair rp v).pair rp = v := by
  cases rp <;> simp [State.pair, State.setPair]

@[simp] theorem State.reg8_advance (s : State) (n : Nat) (r : Reg8) : (s.advance n).reg8 r = s.reg8 r := by cases r <;> rfl
@[simp] theorem State.reg8_setPc (s : State) (v : Word) (r : Reg8) : (s.setPc v).reg8 r = s.reg8 r := by cases r <;> rfl
@[simp] theorem State.reg8_setSp (s : State) (v : Word) (r : Reg8) : (s.setSp v).reg8 r = s.reg8 r := by cases r <;> rfl
@[simp] theorem State.reg8_setFl (s : State) (v : Flags) (r : Reg8) : (s.setFl v).reg8 r = s.reg8 r := by cases r <;> rfl
@[simp] theorem State.pair_advance (s : State) (n : Nat) (rp : Pair) : (s.advance n).pair rp = s.pair rp := by cases rp <;> rfl
@[simp] theorem State.pair_setFl (s : State) (v : Flags) (rp : Pair) : (s.setFl v).pair rp = s.pair rp := by cases rp <;> rfl

end Sys2Proof.Machine
end

