-- ==== Sys2Proof/Laws/PerInstr.lean ====
section
/-! SUPPORT. The family `Length`: the encoding of a well-formed instruction has the length that 30_encoding.md R95 gives its opcode
byte. One lemma per constructor. -/

namespace Sys2Proof.Laws.Length

/-- The encoding is not empty, and as long as the length table says for its first byte. -/
def Statement (i : Instr) : Prop :=
  i.wf = true → (encode i).length = Machine.lengthTable ((encode i).headD 0x00#8)

theorem nop : Statement (.nop) := fun _ => rfl
theorem lxiB (d16 : Word) : Statement (.lxiB d16) := fun _ => rfl
theorem staxB : Statement (.staxB) := fun _ => rfl
theorem inxB : Statement (.inxB) := fun _ => rfl
theorem inrB : Statement (.inrB) := fun _ => rfl
theorem dcrB : Statement (.dcrB) := fun _ => rfl
theorem mviB (d8 : Byte) : Statement (.mviB d8) := fun _ => rfl
theorem rlc : Statement (.rlc) := fun _ => rfl
theorem unsupported (op : Byte) : Statement (.unsupported op) := unsupported_length op
theorem dadB : Statement (.dadB) := fun _ => rfl
theorem ldaxB : Statement (.ldaxB) := fun _ => rfl
theorem dcxB : Statement (.dcxB) := fun _ => rfl
theorem inrC : Statement (.inrC) := fun _ => rfl
theorem dcrC : Statement (.dcrC) := fun _ => rfl
theorem mviC (d8 : Byte) : Statement (.mviC d8) := fun _ => rfl
theorem rrc : Statement (.rrc) := fun _ => rfl
theorem lxiD (d16 : Word) : Statement (.lxiD d16) := fun _ => rfl
theorem staxD : Statement (.staxD) := fun _ => rfl
theorem inxD : Statement (.inxD) := fun _ => rfl
theorem inrD : Statement (.inrD) := fun _ => rfl
theorem dcrD : Statement (.dcrD) := fun _ => rfl
theorem mviD (d8 : Byte) : Statement (.mviD d8) := fun _ => rfl
theorem ral : Statement (.ral) := fun _ => rfl
theorem dadD : Statement (.dadD) := fun _ => rfl
theorem ldaxD : Statement (.ldaxD) := fun _ => rfl
theorem dcxD : Statement (.dcxD) := fun _ => rfl
theorem inrE : Statement (.inrE) := fun _ => rfl
theorem dcrE : Statement (.dcrE) := fun _ => rfl
theorem mviE (d8 : Byte) : Statement (.mviE d8) := fun _ => rfl
theorem rar : Statement (.rar) := fun _ => rfl
theorem lxiH (d16 : Word) : Statement (.lxiH d16) := fun _ => rfl
theorem shld (d16 : Word) : Statement (.shld d16) := fun _ => rfl
theorem inxH : Statement (.inxH) := fun _ => rfl
theorem inrH : Statement (.inrH) := fun _ => rfl
theorem dcrH : Statement (.dcrH) := fun _ => rfl
theorem mviH (d8 : Byte) : Statement (.mviH d8) := fun _ => rfl
theorem unsupportedDAA : Statement (.unsupportedDAA) := fun _ => rfl
theorem dadH : Statement (.dadH) := fun _ => rfl
theorem lhld (d16 : Word) : Statement (.lhld d16) := fun _ => rfl
theorem dcxH : Statement (.dcxH) := fun _ => rfl
theorem inrL : Statement (.inrL) := fun _ => rfl
theorem dcrL : Statement (.dcrL) := fun _ => rfl
theorem mviL (d8 : Byte) : Statement (.mviL d8) := fun _ => rfl
theorem cma : Statement (.cma) := fun _ => rfl
theorem lxiSP (d16 : Word) : Statement (.lxiSP d16) := fun _ => rfl
theorem sta (d16 : Word) : Statement (.sta d16) := fun _ => rfl
theorem inxSP : Statement (.inxSP) := fun _ => rfl
theorem inrM : Statement (.inrM) := fun _ => rfl
theorem dcrM : Statement (.dcrM) := fun _ => rfl
theorem mviM (d8 : Byte) : Statement (.mviM d8) := fun _ => rfl
theorem stc : Statement (.stc) := fun _ => rfl
theorem dadSP : Statement (.dadSP) := fun _ => rfl
theorem lda (d16 : Word) : Statement (.lda d16) := fun _ => rfl
theorem dcxSP : Statement (.dcxSP) := fun _ => rfl
theorem inrA : Statement (.inrA) := fun _ => rfl
theorem dcrA : Statement (.dcrA) := fun _ => rfl
theorem mviA (d8 : Byte) : Statement (.mviA d8) := fun _ => rfl
theorem cmc : Statement (.cmc) := fun _ => rfl
theorem movBB : Statement (.movBB) := fun _ => rfl
theorem movBC : Statement (.movBC) := fun _ => rfl
theorem movBD : Statement (.movBD) := fun _ => rfl
theorem movBE : Statement (.movBE) := fun _ => rfl
theorem movBH : Statement (.movBH) := fun _ => rfl
theorem movBL : Statement (.movBL) := fun _ => rfl
theorem movBM : Statement (.movBM) := fun _ => rfl
theorem movBA : Statement (.movBA) := fun _ => rfl
theorem movCB : Statement (.movCB) := fun _ => rfl
theorem movCC : Statement (.movCC) := fun _ => rfl
theorem movCD : Statement (.movCD) := fun _ => rfl
theorem movCE : Statement (.movCE) := fun _ => rfl
theorem movCH : Statement (.movCH) := fun _ => rfl
theorem movCL : Statement (.movCL) := fun _ => rfl
theorem movCM : Statement (.movCM) := fun _ => rfl
theorem movCA : Statement (.movCA) := fun _ => rfl
theorem movDB : Statement (.movDB) := fun _ => rfl
theorem movDC : Statement (.movDC) := fun _ => rfl
theorem movDD : Statement (.movDD) := fun _ => rfl
theorem movDE : Statement (.movDE) := fun _ => rfl
theorem movDH : Statement (.movDH) := fun _ => rfl
theorem movDL : Statement (.movDL) := fun _ => rfl
theorem movDM : Statement (.movDM) := fun _ => rfl
theorem movDA : Statement (.movDA) := fun _ => rfl
theorem movEB : Statement (.movEB) := fun _ => rfl
theorem movEC : Statement (.movEC) := fun _ => rfl
theorem movED : Statement (.movED) := fun _ => rfl
theorem movEE : Statement (.movEE) := fun _ => rfl
theorem movEH : Statement (.movEH) := fun _ => rfl
theorem movEL : Statement (.movEL) := fun _ => rfl
theorem movEM : Statement (.movEM) := fun _ => rfl
theorem movEA : Statement (.movEA) := fun _ => rfl
theorem movHB : Statement (.movHB) := fun _ => rfl
theorem movHC : Statement (.movHC) := fun _ => rfl
theorem movHD : Statement (.movHD) := fun _ => rfl
theorem movHE : Statement (.movHE) := fun _ => rfl
theorem movHH : Statement (.movHH) := fun _ => rfl
theorem movHL : Statement (.movHL) := fun _ => rfl
theorem movHM : Statement (.movHM) := fun _ => rfl
theorem movHA : Statement (.movHA) := fun _ => rfl
theorem movLB : Statement (.movLB) := fun _ => rfl
theorem movLC : Statement (.movLC) := fun _ => rfl
theorem movLD : Statement (.movLD) := fun _ => rfl
theorem movLE : Statement (.movLE) := fun _ => rfl
theorem movLH : Statement (.movLH) := fun _ => rfl
theorem movLL : Statement (.movLL) := fun _ => rfl
theorem movLM : Statement (.movLM) := fun _ => rfl
theorem movLA : Statement (.movLA) := fun _ => rfl
theorem movMB : Statement (.movMB) := fun _ => rfl
theorem movMC : Statement (.movMC) := fun _ => rfl
theorem movMD : Statement (.movMD) := fun _ => rfl
theorem movME : Statement (.movME) := fun _ => rfl
theorem movMH : Statement (.movMH) := fun _ => rfl
theorem movML : Statement (.movML) := fun _ => rfl
theorem hlt : Statement (.hlt) := fun _ => rfl
theorem movMA : Statement (.movMA) := fun _ => rfl
theorem movAB : Statement (.movAB) := fun _ => rfl
theorem movAC : Statement (.movAC) := fun _ => rfl
theorem movAD : Statement (.movAD) := fun _ => rfl
theorem movAE : Statement (.movAE) := fun _ => rfl
theorem movAH : Statement (.movAH) := fun _ => rfl
theorem movAL : Statement (.movAL) := fun _ => rfl
theorem movAM : Statement (.movAM) := fun _ => rfl
theorem movAA : Statement (.movAA) := fun _ => rfl
theorem addB : Statement (.addB) := fun _ => rfl
theorem addC : Statement (.addC) := fun _ => rfl
theorem addD : Statement (.addD) := fun _ => rfl
theorem addE : Statement (.addE) := fun _ => rfl
theorem addH : Statement (.addH) := fun _ => rfl
theorem addL : Statement (.addL) := fun _ => rfl
theorem addM : Statement (.addM) := fun _ => rfl
theorem addA : Statement (.addA) := fun _ => rfl
theorem adcB : Statement (.adcB) := fun _ => rfl
theorem adcC : Statement (.adcC) := fun _ => rfl
theorem adcD : Statement (.adcD) := fun _ => rfl
theorem adcE : Statement (.adcE) := fun _ => rfl
theorem adcH : Statement (.adcH) := fun _ => rfl
theorem adcL : Statement (.adcL) := fun _ => rfl
theorem adcM : Statement (.adcM) := fun _ => rfl
theorem adcA : Statement (.adcA) := fun _ => rfl
theorem subB : Statement (.subB) := fun _ => rfl
theorem subC : Statement (.subC) := fun _ => rfl
theorem subD : Statement (.subD) := fun _ => rfl
theorem subE : Statement (.subE) := fun _ => rfl
theorem subH : Statement (.subH) := fun _ => rfl
theorem subL : Statement (.subL) := fun _ => rfl
theorem subM : Statement (.subM) := fun _ => rfl
theorem subA : Statement (.subA) := fun _ => rfl
theorem sbbB : Statement (.sbbB) := fun _ => rfl
theorem sbbC : Statement (.sbbC) := fun _ => rfl
theorem sbbD : Statement (.sbbD) := fun _ => rfl
theorem sbbE : Statement (.sbbE) := fun _ => rfl
theorem sbbH : Statement (.sbbH) := fun _ => rfl
theorem sbbL : Statement (.sbbL) := fun _ => rfl
theorem sbbM : Statement (.sbbM) := fun _ => rfl
theorem sbbA : Statement (.sbbA) := fun _ => rfl
theorem anaB : Statement (.anaB) := fun _ => rfl
theorem anaC : Statement (.anaC) := fun _ => rfl
theorem anaD : Statement (.anaD) := fun _ => rfl
theorem anaE : Statement (.anaE) := fun _ => rfl
theorem anaH : Statement (.anaH) := fun _ => rfl
theorem anaL : Statement (.anaL) := fun _ => rfl
theorem anaM : Statement (.anaM) := fun _ => rfl
theorem anaA : Statement (.anaA) := fun _ => rfl
theorem xraB : Statement (.xraB) := fun _ => rfl
theorem xraC : Statement (.xraC) := fun _ => rfl
theorem xraD : Statement (.xraD) := fun _ => rfl
theorem xraE : Statement (.xraE) := fun _ => rfl
theorem xraH : Statement (.xraH) := fun _ => rfl
theorem xraL : Statement (.xraL) := fun _ => rfl
theorem xraM : Statement (.xraM) := fun _ => rfl
theorem xraA : Statement (.xraA) := fun _ => rfl
theorem oraB : Statement (.oraB) := fun _ => rfl
theorem oraC : Statement (.oraC) := fun _ => rfl
theorem oraD : Statement (.oraD) := fun _ => rfl
theorem oraE : Statement (.oraE) := fun _ => rfl
theorem oraH : Statement (.oraH) := fun _ => rfl
theorem oraL : Statement (.oraL) := fun _ => rfl
theorem oraM : Statement (.oraM) := fun _ => rfl
theorem oraA : Statement (.oraA) := fun _ => rfl
theorem cmpB : Statement (.cmpB) := fun _ => rfl
theorem cmpC : Statement (.cmpC) := fun _ => rfl
theorem cmpD : Statement (.cmpD) := fun _ => rfl
theorem cmpE : Statement (.cmpE) := fun _ => rfl
theorem cmpH : Statement (.cmpH) := fun _ => rfl
theorem cmpL : Statement (.cmpL) := fun _ => rfl
theorem cmpM : Statement (.cmpM) := fun _ => rfl
theorem cmpA : Statement (.cmpA) := fun _ => rfl
theorem rnz : Statement (.rnz) := fun _ => rfl
theorem popB : Statement (.popB) := fun _ => rfl
theorem jnz (d16 : Word) : Statement (.jnz d16) := fun _ => rfl
theorem jmp (d16 : Word) : Statement (.jmp d16) := fun _ => rfl
theorem cnz (d16 : Word) : Statement (.cnz d16) := fun _ => rfl
theorem pushB : Statement (.pushB) := fun _ => rfl
theorem adi (d8 : Byte) : Statement (.adi d8) := fun _ => rfl
theorem rst0 : Statement (.rst0) := fun _ => rfl
theorem rz : Statement (.rz) := fun _ => rfl
theorem ret : Statement (.ret) := fun _ => rfl
theorem jz (d16 : Word) : Statement (.jz d16) := fun _ => rfl
theorem cz (d16 : Word) : Statement (.cz d16) := fun _ => rfl
theorem call (d16 : Word) : Statement (.call d16) := fun _ => rfl
theorem aci (d8 : Byte) : Statement (.aci d8) := fun _ => rfl
theorem rst1 : Statement (.rst1) := fun _ => rfl
theorem rnc : Statement (.rnc) := fun _ => rfl
theorem popD : Statement (.popD) := fun _ => rfl
theorem jnc (d16 : Word) : Statement (.jnc d16) := fun _ => rfl
theorem outPort (d8 : Byte) : Statement (.outPort d8) := fun _ => rfl
theorem cnc (d16 : Word) : Statement (.cnc d16) := fun _ => rfl
theorem pushD : Statement (.pushD) := fun _ => rfl
theorem sui (d8 : Byte) : Statement (.sui d8) := fun _ => rfl
theorem rst2 : Statement (.rst2) := fun _ => rfl
theorem rc : Statement (.rc) := fun _ => rfl
theorem jc (d16 : Word) : Statement (.jc d16) := fun _ => rfl
theorem inPort (d8 : Byte) : Statement (.inPort d8) := fun _ => rfl
theorem cc (d16 : Word) : Statement (.cc d16) := fun _ => rfl
theorem sbi (d8 : Byte) : Statement (.sbi d8) := fun _ => rfl
theorem rst3 : Statement (.rst3) := fun _ => rfl
theorem rpo : Statement (.rpo) := fun _ => rfl
theorem popH : Statement (.popH) := fun _ => rfl
theorem jpo (d16 : Word) : Statement (.jpo d16) := fun _ => rfl
theorem xthl : Statement (.xthl) := fun _ => rfl
theorem cpo (d16 : Word) : Statement (.cpo d16) := fun _ => rfl
theorem pushH : Statement (.pushH) := fun _ => rfl
theorem ani (d8 : Byte) : Statement (.ani d8) := fun _ => rfl
theorem rst4 : Statement (.rst4) := fun _ => rfl
theorem rpe : Statement (.rpe) := fun _ => rfl
theorem pchl : Statement (.pchl) := fun _ => rfl
theorem jpe (d16 : Word) : Statement (.jpe d16) := fun _ => rfl
theorem xchg : Statement (.xchg) := fun _ => rfl
theorem cpe (d16 : Word) : Statement (.cpe d16) := fun _ => rfl
theorem xri (d8 : Byte) : Statement (.xri d8) := fun _ => rfl
theorem rst5 : Statement (.rst5) := fun _ => rfl
theorem rp : Statement (.rp) := fun _ => rfl
theorem popPSW : Statement (.popPSW) := fun _ => rfl
theorem jp (d16 : Word) : Statement (.jp d16) := fun _ => rfl
theorem di : Statement (.di) := fun _ => rfl
theorem cp (d16 : Word) : Statement (.cp d16) := fun _ => rfl
theorem pushPSW : Statement (.pushPSW) := fun _ => rfl
theorem ori (d8 : Byte) : Statement (.ori d8) := fun _ => rfl
theorem rst6 : Statement (.rst6) := fun _ => rfl
theorem rm : Statement (.rm) := fun _ => rfl
theorem sphl : Statement (.sphl) := fun _ => rfl
theorem jm (d16 : Word) : Statement (.jm d16) := fun _ => rfl
theorem ei : Statement (.ei) := fun _ => rfl
theorem cm (d16 : Word) : Statement (.cm d16) := fun _ => rfl
theorem cpi (d8 : Byte) : Statement (.cpi d8) := fun _ => rfl
theorem rst7 : Statement (.rst7) := fun _ => rfl

end Sys2Proof.Laws.Length
end

