-- ==== Sys2Proof/Laws/Step.lean ====
section
/-! SUPPORT. One step and many steps, the loader, and the shift device: the equations that spare a proof the unfolding of `step`,
`Host.Core.run`, `State.loadImage` and the port operations. -/

namespace Sys2Proof.Machine

/-! ### Steps -/

theorem step_running (s : State) (h : s.run = .running) : step s = exec s.fetch s := by rw [step, h]

theorem step_halted (s : State) (h : s.run = .halted) : step s = .next s := by rw [step, h]; rfl

/-- A run of `k + 1` steps whose first answers a next state. -/
theorem run_succ_of_next {s t : State} (k : Nat) (h : step s = .next t) :
    Host.Core.run core (k + 1) s = Host.Core.run core k t := by
  have hc : core.step s = .next t := h
  simp [Host.Core.run, hc]

/-! ### The loader -/

theorem State.loadImage_append (s : State) (bytes : List Byte) (v : Byte) (offset : Word) :
    s.loadImage (bytes ++ [v]) offset = (s.loadImage bytes offset).write8 (offset + BitVec.ofNat 16 bytes.length) v := by
  induction bytes generalizing s offset with
  | nil => simp [State.loadImage]
  | cons b t ih =>
    have h : offset + 1 + BitVec.ofNat 16 t.length = offset + BitVec.ofNat 16 (t.length + 1) := by
      rw [BitVec.add_assoc]
      congr 1
      apply BitVec.eq_of_toNat_eq
      simp [BitVec.toNat_add]
      omega
    simp only [List.cons_append, State.loadImage, ih, List.length_cons, h]

/-- The loader writes memory and nothing else. -/
theorem State.loadImage_only_mem (s : State) (bytes : List Byte) (offset : Word) :
    s.loadImage bytes offset = { s with mem := (s.loadImage bytes offset).mem } := by
  induction bytes generalizing s offset with
  | nil => rfl
  | cons b t ih => simp only [State.loadImage]; rw [ih]; rfl

theorem State.loadImage_setPc (s : State) (bytes : List Byte) (offset pc : Word) :
    (s.setPc pc).loadImage bytes offset = (s.loadImage bytes offset).setPc pc := by
  induction bytes generalizing s offset with
  | nil => rfl
  | cons b t ih => exact ih (s.write8 offset b) _

theorem State.loadAll_append (s : State) (image more : List (Word × List Byte)) :
    s.loadAll (image ++ more) = (s.loadAll image).loadAll more := by
  induction image generalizing s with
  | nil => rfl
  | cons b t ih => exact ih _

/-! ### The shift device -/

/-- What port 3 reads as, in numbers. -/
theorem State.shiftResult_eq (s : State) :
    s.shiftResult = BitVec.ofNat 8 (s.shiftReg.toNat / 2 ^ (8 - s.shiftAmount.toNat)) :=
  BitVec.eq_of_toNat_eq (by simp [State.shiftResult, Nat.shiftRight_eq_div_pow])

/-- The shift register after a write to port 4, in numbers. -/
theorem shiftReg_eq (v : Byte) (r : Word) :
    (v.setWidth 16 <<< 8) ||| (r >>> 8) = BitVec.ofNat 16 (v.toNat * 256 + r.toNat / 256) := by
  have hv := v.isLt
  have hr := r.isLt
  apply BitVec.eq_of_toNat_eq
  rw [BitVec.toNat_or, BitVec.toNat_shiftLeft, BitVec.toNat_ushiftRight, BitVec.toNat_setWidth, BitVec.toNat_ofNat,
    Nat.shiftRight_eq_div_pow, Nat.shiftLeft_eq, Nat.mod_eq_of_lt (by omega), Nat.mod_eq_of_lt (by omega),
    Nat.mod_eq_of_lt (by omega), ← Nat.shiftLeft_eq, ← Nat.shiftLeft_add_eq_or_of_lt (by omega), Nat.shiftLeft_eq]

/-- A port is compared by its number. -/
theorem port_eq_iff (p : Byte) (n : Nat) (h : n < 256) : p = BitVec.ofNat 8 n ↔ p.toNat = n := by
  rw [← BitVec.toNat_inj, BitVec.toNat_ofNat, Nat.mod_eq_of_lt h]

/-- PortWrite, in numbers. -/
theorem State.portWrite_eq (s : State) (p v : Byte) :
    s.portWrite p v = { s with
      shiftReg := if p.toNat = 4 then BitVec.ofNat 16 (v.toNat * 256 + s.shiftReg.toNat / 256) else s.shiftReg
      shiftAmount := if p.toNat = 2 then v.setWidth 3 else s.shiftAmount } := by
  rw [State.portWrite, shiftReg_eq]
  simp only [port_eq_iff p 4 (by omega), port_eq_iff p 2 (by omega)]
  by_cases h4 : p.toNat = 4
  · simp only [h4]; rfl
  · by_cases h2 : p.toNat = 2
    · simp only [h2]; rfl
    · simp only [if_neg h4, if_neg h2]

end Sys2Proof.Machine
end

