-- ==== Sys2Proof/Laws/View.lean ====
section
/-! SUPPORT. The instructions by family: `Instr.view` says that every instruction is one of 44 forms, and one lemma a form says what
`exec` answers. A proof over all instructions goes by cases on `i.view`, not over the 245 constructors. -/

namespace Sys2Proof

/-- Every instruction by family and operands. -/
inductive Instr.View : Instr → Prop where
  | mov (dst src : Reg8) (h : ¬ (dst = .m ∧ src = .m)) : Instr.View (.ofMov dst src)
  | mvi (dst : Reg8) (d8 : Byte) : Instr.View (.ofMvi dst d8)
  | lxi (rp : Pair) (d16 : Word) : Instr.View (.ofLxi rp d16)
  | ldax (rp : IndexPair) : Instr.View (.ofLdax rp)
  | stax (rp : IndexPair) : Instr.View (.ofStax rp)
  | alu (op : AluOp) (r : Reg8) : Instr.View (.ofAlu op r)
  | aluImm (op : AluOp) (d8 : Byte) : Instr.View (.ofAluImm op d8)
  | inr (r : Reg8) : Instr.View (.ofInr r)
  | dcr (r : Reg8) : Instr.View (.ofDcr r)
  | dad (rp : Pair) : Instr.View (.ofDad rp)
  | inx (rp : Pair) : Instr.View (.ofInx rp)
  | dcx (rp : Pair) : Instr.View (.ofDcx rp)
  | push (rp : StackPair) : Instr.View (.ofPush rp)
  | pop (rp : StackPair) : Instr.View (.ofPop rp)
  | jump (cc : Cond) (a16 : Word) : Instr.View (.ofJump cc a16)
  | callIf (cc : Cond) (a16 : Word) : Instr.View (.ofCall cc a16)
  | returnIf (cc : Cond) : Instr.View (.ofReturn cc)
  | rst (n : Fin 8) : Instr.View (.ofRst n)
  | lda (a16 : Word) : Instr.View (.lda a16)
  | sta (a16 : Word) : Instr.View (.sta a16)
  | lhld (a16 : Word) : Instr.View (.lhld a16)
  | shld (a16 : Word) : Instr.View (.shld a16)
  | xchg : Instr.View (.xchg)
  | rlc : Instr.View (.rlc)
  | rrc : Instr.View (.rrc)
  | ral : Instr.View (.ral)
  | rar : Instr.View (.rar)
  | cma : Instr.View (.cma)
  | stc : Instr.View (.stc)
  | cmc : Instr.View (.cmc)
  | xthl : Instr.View (.xthl)
  | sphl : Instr.View (.sphl)
  | jmp (a16 : Word) : Instr.View (.jmp a16)
  | call (a16 : Word) : Instr.View (.call a16)
  | ret : Instr.View (.ret)
  | pchl : Instr.View (.pchl)
  | inPort (p : Byte) : Instr.View (.inPort p)
  | outPort (p : Byte) : Instr.View (.outPort p)
  | nop : Instr.View (.nop)
  | hlt : Instr.View (.hlt)
  | di : Instr.View (.di)
  | ei : Instr.View (.ei)
  | unsupported (op : Byte) : Instr.View (.unsupported op)
  | unsupportedDAA : Instr.View (.unsupportedDAA)

/-- Every instruction has a family. -/
theorem Instr.view (i : Instr) : i.View := by
  cases i
  case nop => exact .nop
  case lxiB => exact .lxi .bc _
  case staxB => exact .stax .bc
  case inxB => exact .inx .bc
  case inrB => exact .inr .b
  case dcrB => exact .dcr .b
  case mviB => exact .mvi .b _
  case rlc => exact .rlc
  case unsupported => exact .unsupported _
  case dadB => exact .dad .bc
  case ldaxB => exact .ldax .bc
  case dcxB => exact .dcx .bc
  case inrC => exact .inr .c
  case dcrC => exact .dcr .c
  case mviC => exact .mvi .c _
  case rrc => exact .rrc
  case lxiD => exact .lxi .de _
  case staxD => exact .stax .de
  case inxD => exact .inx .de
  case inrD => exact .inr .d
  case dcrD => exact .dcr .d
  case mviD => exact .mvi .d _
  case ral => exact .ral
  case dadD => exact .dad .de
  case ldaxD => exact .ldax .de
  case dcxD => exact .dcx .de
  case inrE => exact .inr .e
  case dcrE => exact .dcr .e
  case mviE => exact .mvi .e _
  case rar => exact .rar
  case lxiH => exact .lxi .hl _
  case shld => exact .shld _
  case inxH => exact .inx .hl
  case inrH => exact .inr .h
  case dcrH => exact .dcr .h
  case mviH => exact .mvi .h _
  case unsupportedDAA => exact .unsupportedDAA
  case dadH => exact .dad .hl
  case lhld => exact .lhld _
  case dcxH => exact .dcx .hl
  case inrL => exact .inr .l
  case dcrL => exact .dcr .l
  case mviL => exact .mvi .l _
  case cma => exact .cma
  case lxiSP => exact .lxi .sp _
  case sta => exact .sta _
  case inxSP => exact .inx .sp
  case inrM => exact .inr .m
  case dcrM => exact .dcr .m
  case mviM => exact .mvi .m _
  case stc => exact .stc
  case dadSP => exact .dad .sp
  case lda => exact .lda _
  case dcxSP => exact .dcx .sp
  case inrA => exact .inr .a
  case dcrA => exact .dcr .a
  case mviA => exact .mvi .a _
  case cmc => exact .cmc
  case movBB => exact .mov .b .b (by decide)
  case movBC => exact .mov .b .c (by decide)
  case movBD => exact .mov .b .d (by decide)
  case movBE => exact .mov .b .e (by decide)
  case movBH => exact .mov .b .h (by decide)
  case movBL => exact .mov .b .l (by decide)
  case movBM => exact .mov .b .m (by decide)
  case movBA => exact .mov .b .a (by decide)
  case movCB => exact .mov .c .b (by decide)
  case movCC => exact .mov .c .c (by decide)
  case movCD => exact .mov .c .d (by decide)
  case movCE => exact .mov .c .e (by decide)
  case movCH => exact .mov .c .h (by decide)
  case movCL => exact .mov .c .l (by decide)
  case movCM => exact .mov .c .m (by decide)
  case movCA => exact .mov .c .a (by decide)
  case movDB => exact .mov .d .b (by decide)
  case movDC => exact .mov .d .c (by decide)
  case movDD => exact .mov .d .d (by decide)
  case movDE => exact .mov .d .e (by decide)
  case movDH => exact .mov .d .h (by decide)
  case movDL => exact .mov .d .l (by decide)
  case movDM => exact .mov .d .m (by decide)
  case movDA => exact .mov .d .a (by decide)
  case movEB => exact .mov .e .b (by decide)
  case movEC => exact .mov .e .c (by decide)
  case movED => exact .mov .e .d (by decide)
  case movEE => exact .mov .e .e (by decide)
  case movEH => exact .mov .e .h (by decide)
  case movEL => exact .mov .e .l (by decide)
  case movEM => exact .mov .e .m (by decide)
  case movEA => exact .mov .e .a (by decide)
  case movHB => exact .mov .h .b (by decide)
  case movHC => exact .mov .h .c (by decide)
  case movHD => exact .mov .h .d (by decide)
  case movHE => exact .mov .h .e (by decide)
  case movHH => exact .mov .h .h (by decide)
  case movHL => exact .mov .h .l (by decide)
  case movHM => exact .mov .h .m (by decide)
  case movHA => exact .mov .h .a (by decide)
  case movLB => exact .mov .l .b (by decide)
  case movLC => exact .mov .l .c (by decide)
  case movLD => exact .mov .l .d (by decide)
  case movLE => exact .mov .l .e (by decide)
  case movLH => exact .mov .l .h (by decide)
  case movLL => exact .mov .l .l (by decide)
  case movLM => exact .mov .l .m (by decide)
  case movLA => exact .mov .l .a (by decide)
  case movMB => exact .mov .m .b (by decide)
  case movMC => exact .mov .m .c (by decide)
  case movMD => exact .mov .m .d (by decide)
  case movME => exact .mov .m .e (by decide)
  case movMH => exact .mov .m .h (by decide)
  case movML => exact .mov .m .l (by decide)
  case hlt => exact .hlt
  case movMA => exact .mov .m .a (by decide)
  case movAB => exact .mov .a .b (by decide)
  case movAC => exact .mov .a .c (by decide)
  case movAD => exact .mov .a .d (by decide)
  case movAE => exact .mov .a .e (by decide)
  case movAH => exact .mov .a .h (by decide)
  case movAL => exact .mov .a .l (by decide)
  case movAM => exact .mov .a .m (by decide)
  case movAA => exact .mov .a .a (by decide)
  case addB => exact .alu .add .b
  case addC => exact .alu .add .c
  case addD => exact .alu .add .d
  case addE => exact .alu .add .e
  case addH => exact .alu .add .h
  case addL => exact .alu .add .l
  case addM => exact .alu .add .m
  case addA => exact .alu .add .a
  case adcB => exact .alu .adc .b
  case adcC => exact .alu .adc .c
  case adcD => exact .alu .adc .d
  case adcE => exact .alu .adc .e
  case adcH => exact .alu .adc .h
  case adcL => exact .alu .adc .l
  case adcM => exact .alu .adc .m
  case adcA => exact .alu .adc .a
  case subB => exact .alu .sub .b
  case subC => exact .alu .sub .c
  case subD => exact .alu .sub .d
  case subE => exact .alu .sub .e
  case subH => exact .alu .sub .h
  case subL => exact .alu .sub .l
  case subM => exact .alu .sub .m
  case subA => exact .alu .sub .a
  case sbbB => exact .alu .sbb .b
  case sbbC => exact .alu .sbb .c
  case sbbD => exact .alu .sbb .d
  case sbbE => exact .alu .sbb .e
  case sbbH => exact .alu .sbb .h
  case sbbL => exact .alu .sbb .l
  case sbbM => exact .alu .sbb .m
  case sbbA => exact .alu .sbb .a
  case anaB => exact .alu .ana .b
  case anaC => exact .alu .ana .c
  case anaD => exact .alu .ana .d
  case anaE => exact .alu .ana .e
  case anaH => exact .alu .ana .h
  case anaL => exact .alu .ana .l
  case anaM => exact .alu .ana .m
  case anaA => exact .alu .ana .a
  case xraB => exact .alu .xra .b
  case xraC => exact .alu .xra .c
  case xraD => exact .alu .xra .d
  case xraE => exact .alu .xra .e
  case xraH => exact .alu .xra .h
  case xraL => exact .alu .xra .l
  case xraM => exact .alu .xra .m
  case xraA => exact .alu .xra .a
  case oraB => exact .alu .ora .b
  case oraC => exact .alu .ora .c
  case oraD => exact .alu .ora .d
  case oraE => exact .alu .ora .e
  case oraH => exact .alu .ora .h
  case oraL => exact .alu .ora .l
  case oraM => exact .alu .ora .m
  case oraA => exact .alu .ora .a
  case cmpB => exact .alu .cmp .b
  case cmpC => exact .alu .cmp .c
  case cmpD => exact .alu .cmp .d
  case cmpE => exact .alu .cmp .e
  case cmpH => exact .alu .cmp .h
  case cmpL => exact .alu .cmp .l
  case cmpM => exact .alu .cmp .m
  case cmpA => exact .alu .cmp .a
  case rnz => exact .returnIf .nz
  case popB => exact .pop .bc
  case jnz => exact .jump .nz _
  case jmp => exact .jmp _
  case cnz => exact .callIf .nz _
  case pushB => exact .push .bc
  case adi => exact .aluImm .add _
  case rst0 => exact .rst 0
  case rz => exact .returnIf .z
  case ret => exact .ret
  case jz => exact .jump .z _
  case cz => exact .callIf .z _
  case call => exact .call _
  case aci => exact .aluImm .adc _
  case rst1 => exact .rst 1
  case rnc => exact .returnIf .nc
  case popD => exact .pop .de
  case jnc => exact .jump .nc _
  case outPort => exact .outPort _
  case cnc => exact .callIf .nc _
  case pushD => exact .push .de
  case sui => exact .aluImm .sub _
  case rst2 => exact .rst 2
  case rc => exact .returnIf .c
  case jc => exact .jump .c _
  case inPort => exact .inPort _
  case cc => exact .callIf .c _
  case sbi => exact .aluImm .sbb _
  case rst3 => exact .rst 3
  case rpo => exact .returnIf .po
  case popH => exact .pop .hl
  case jpo => exact .jump .po _
  case xthl => exact .xthl
  case cpo => exact .callIf .po _
  case pushH => exact .push .hl
  case ani => exact .aluImm .ana _
  case rst4 => exact .rst 4
  case rpe => exact .returnIf .pe
  case pchl => exact .pchl
  case jpe => exact .jump .pe _
  case xchg => exact .xchg
  case cpe => exact .callIf .pe _
  case xri => exact .aluImm .xra _
  case rst5 => exact .rst 5
  case rp => exact .returnIf .p
  case popPSW => exact .pop .psw
  case jp => exact .jump .p _
  case di => exact .di
  case cp => exact .callIf .p _
  case pushPSW => exact .push .psw
  case ori => exact .aluImm .ora _
  case rst6 => exact .rst 6
  case rm => exact .returnIf .m
  case sphl => exact .sphl
  case jm => exact .jump .m _
  case ei => exact .ei
  case cm => exact .callIf .m _
  case cpi => exact .aluImm .cmp _
  case rst7 => exact .rst 7

end Sys2Proof

namespace Sys2Proof.Machine

theorem exec_ofMov (dst src : Reg8) (h : ¬ (dst = .m ∧ src = .m)) (s : State) : exec (.ofMov dst src) s = .next (s.movReg dst src) := by
  cases dst <;> cases src <;> first | rfl | exact absurd ⟨rfl, rfl⟩ h

theorem exec_ofMvi (dst : Reg8) (d8 : Byte) (s : State) : exec (.ofMvi dst d8) s = .next (s.moveImm dst d8) := by
  cases dst <;> rfl

theorem exec_ofLxi (rp : Pair) (d16 : Word) (s : State) : exec (.ofLxi rp d16) s = .next (s.loadPair rp d16) := by
  cases rp <;> rfl

theorem exec_ofLdax (rp : IndexPair) (s : State) : exec (.ofLdax rp) s = .next (s.loadA (s.indexPair rp) 1) := by
  cases rp <;> rfl

theorem exec_ofStax (rp : IndexPair) (s : State) : exec (.ofStax rp) s = .next (s.storeA (s.indexPair rp) 1) := by
  cases rp <;> rfl

theorem exec_ofAlu (op : AluOp) (r : Reg8) (s : State) : exec (.ofAlu op r) s = .next (s.aluReg op r) := by
  cases op <;> cases r <;> rfl

theorem exec_ofAluImm (op : AluOp) (d8 : Byte) (s : State) : exec (.ofAluImm op d8) s = .next (s.aluImm op d8) := by
  cases op <;> rfl

theorem exec_ofInr (r : Reg8) (s : State) : exec (.ofInr r) s = .next (s.increment r) := by
  cases r <;> rfl

theorem exec_ofDcr (r : Reg8) (s : State) : exec (.ofDcr r) s = .next (s.decrement r) := by
  cases r <;> rfl

theorem exec_ofDad (rp : Pair) (s : State) : exec (.ofDad rp) s = .next (s.addToHl rp) := by
  cases rp <;> rfl

theorem exec_ofInx (rp : Pair) (s : State) : exec (.ofInx rp) s = .next (s.incrementPair rp) := by
  cases rp <;> rfl

theorem exec_ofDcx (rp : Pair) (s : State) : exec (.ofDcx rp) s = .next (s.decrementPair rp) := by
  cases rp <;> rfl

theorem exec_ofPush (rp : StackPair) (s : State) : exec (.ofPush rp) s = .next (s.pushPair rp) := by
  cases rp <;> rfl

theorem exec_ofPop (rp : StackPair) (s : State) : exec (.ofPop rp) s = .next (s.popPair rp) := by
  cases rp <;> rfl

theorem exec_ofJump (cc : Cond) (a16 : Word) (s : State) : exec (.ofJump cc a16) s = .next (s.jumpIf (s.fl.cond cc) a16) := by
  cases cc <;> rfl

theorem exec_ofCall (cc : Cond) (a16 : Word) (s : State) : exec (.ofCall cc a16) s = .next (s.callIf (s.fl.cond cc) a16) := by
  cases cc <;> rfl

theorem exec_ofReturn (cc : Cond) (s : State) : exec (.ofReturn cc) s = .next (s.returnIf (s.fl.cond cc)) := by
  cases cc <;> rfl

theorem exec_ofRst (n : Fin 8) (s : State) : exec (.ofRst n) s = .next (s.call 1 (BitVec.ofNat 16 (8 * n.val))) := by
  revert n; intro n; match n with
  | 0 | 1 | 2 | 3 | 4 | 5 | 6 | 7 => rfl

theorem exec_lda (a16 : Word) (s : State) : exec (.lda a16) s = .next (s.loadA a16 3) := rfl

theorem exec_sta (a16 : Word) (s : State) : exec (.sta a16) s = .next (s.storeA a16 3) := rfl

theorem exec_lhld (a16 : Word) (s : State) : exec (.lhld a16) s = .next (s.loadHl a16) := rfl

theorem exec_shld (a16 : Word) (s : State) : exec (.shld a16) s = .next (s.storeHl a16) := rfl

theorem exec_xchg (s : State) : exec (.xchg) s = .next (s.exchangeHlDe) := rfl

theorem exec_rlc (s : State) : exec (.rlc) s = .next (s.rotate (rlc8 s.a s.fl)) := rfl

theorem exec_rrc (s : State) : exec (.rrc) s = .next (s.rotate (rrc8 s.a s.fl)) := rfl

theorem exec_ral (s : State) : exec (.ral) s = .next (s.rotate (ral8 s.a s.fl)) := rfl

theorem exec_rar (s : State) : exec (.rar) s = .next (s.rotate (rar8 s.a s.fl)) := rfl

theorem exec_cma (s : State) : exec (.cma) s = .next ((s.setA (~~~s.a)).advance 1) := rfl

theorem exec_stc (s : State) : exec (.stc) s = .next (s.writeCarry true) := rfl

theorem exec_cmc (s : State) : exec (.cmc) s = .next (s.writeCarry (!s.fl.c)) := rfl

theorem exec_xthl (s : State) : exec (.xthl) s = .next (s.exchangeHlTop) := rfl

theorem exec_sphl (s : State) : exec (.sphl) s = .next ((s.setSp s.hl).advance 1) := rfl

theorem exec_jmp (a16 : Word) (s : State) : exec (.jmp a16) s = .next (s.setPc a16) := rfl

theorem exec_call (a16 : Word) (s : State) : exec (.call a16) s = .next (s.call 3 a16) := rfl

theorem exec_ret (s : State) : exec (.ret) s = .next (s.return16) := rfl

theorem exec_pchl (s : State) : exec (.pchl) s = .next (s.setPc s.hl) := rfl

theorem exec_inPort (p : Byte) (s : State) : exec (.inPort p) s = .next (s.input p) := rfl

theorem exec_outPort (p : Byte) (s : State) : exec (.outPort p) s = .next (s.output p) := rfl

theorem exec_nop (s : State) : exec (.nop) s = .next (s.advance 1) := rfl

theorem exec_hlt (s : State) : exec (.hlt) s = .next ((s.advance 1).setRun .halted) := rfl

theorem exec_di (s : State) : exec (.di) s = .next ((s.setInte false).advance 1) := rfl

theorem exec_ei (s : State) : exec (.ei) s = .next ((s.setInte true).advance 1) := rfl

theorem exec_unsupported (op : Byte) (s : State) : exec (.unsupported op) s = .next (s.raiseUnsupported) := rfl

theorem exec_unsupportedDAA (s : State) : exec (.unsupportedDAA) s = .next (s.raiseUnsupported) := rfl

/-- Everything an instruction can do: from `s`, the instruction of this form leads to this state. -/
inductive Effect (s : State) : Instr → State → Prop where
  | mov (dst src : Reg8) (h : ¬ (dst = .m ∧ src = .m)) : Effect s (.ofMov dst src) (s.movReg dst src)
  | mvi (dst : Reg8) (d8 : Byte) : Effect s (.ofMvi dst d8) (s.moveImm dst d8)
  | lxi (rp : Pair) (d16 : Word) : Effect s (.ofLxi rp d16) (s.loadPair rp d16)
  | ldax (rp : IndexPair) : Effect s (.ofLdax rp) (s.loadA (s.indexPair rp) 1)
  | stax (rp : IndexPair) : Effect s (.ofStax rp) (s.storeA (s.indexPair rp) 1)
  | alu (op : AluOp) (r : Reg8) : Effect s (.ofAlu op r) (s.aluReg op r)
  | aluImm (op : AluOp) (d8 : Byte) : Effect s (.ofAluImm op d8) (s.aluImm op d8)
  | inr (r : Reg8) : Effect s (.ofInr r) (s.increment r)
  | dcr (r : Reg8) : Effect s (.ofDcr r) (s.decrement r)
  | dad (rp : Pair) : Effect s (.ofDad rp) (s.addToHl rp)
  | inx (rp : Pair) : Effect s (.ofInx rp) (s.incrementPair rp)
  | dcx (rp : Pair) : Effect s (.ofDcx rp) (s.decrementPair rp)
  | push (rp : StackPair) : Effect s (.ofPush rp) (s.pushPair rp)
  | pop (rp : StackPair) : Effect s (.ofPop rp) (s.popPair rp)
  | jump (cc : Cond) (a16 : Word) : Effect s (.ofJump cc a16) (s.jumpIf (s.fl.cond cc) a16)
  | callIf (cc : Cond) (a16 : Word) : Effect s (.ofCall cc a16) (s.callIf (s.fl.cond cc) a16)
  | returnIf (cc : Cond) : Effect s (.ofReturn cc) (s.returnIf (s.fl.cond cc))
  | rst (n : Fin 8) : Effect s (.ofRst n) (s.call 1 (BitVec.ofNat 16 (8 * n.val)))
  | lda (a16 : Word) : Effect s (.lda a16) (s.loadA a16 3)
  | sta (a16 : Word) : Effect s (.sta a16) (s.storeA a16 3)
  | lhld (a16 : Word) : Effect s (.lhld a16) (s.loadHl a16)
  | shld (a16 : Word) : Effect s (.shld a16) (s.storeHl a16)
  | xchg : Effect s (.xchg) (s.exchangeHlDe)
  | rlc : Effect s (.rlc) (s.rotate (rlc8 s.a s.fl))
  | rrc : Effect s (.rrc) (s.rotate (rrc8 s.a s.fl))
  | ral : Effect s (.ral) (s.rotate (ral8 s.a s.fl))
  | rar : Effect s (.rar) (s.rotate (rar8 s.a s.fl))
  | cma : Effect s (.cma) ((s.setA (~~~s.a)).advance 1)
  | stc : Effect s (.stc) (s.writeCarry true)
  | cmc : Effect s (.cmc) (s.writeCarry (!s.fl.c))
  | xthl : Effect s (.xthl) (s.exchangeHlTop)
  | sphl : Effect s (.sphl) ((s.setSp s.hl).advance 1)
  | jmp (a16 : Word) : Effect s (.jmp a16) (s.setPc a16)
  | call (a16 : Word) : Effect s (.call a16) (s.call 3 a16)
  | ret : Effect s (.ret) (s.return16)
  | pchl : Effect s (.pchl) (s.setPc s.hl)
  | inPort (p : Byte) : Effect s (.inPort p) (s.input p)
  | outPort (p : Byte) : Effect s (.outPort p) (s.output p)
  | nop : Effect s (.nop) (s.advance 1)
  | hlt : Effect s (.hlt) ((s.advance 1).setRun .halted)
  | di : Effect s (.di) ((s.setInte false).advance 1)
  | ei : Effect s (.ei) ((s.setInte true).advance 1)
  | unsupported (op : Byte) : Effect s (.unsupported op) (s.raiseUnsupported)
  | unsupportedDAA : Effect s (.unsupportedDAA) (s.raiseUnsupported)

/-- Every instruction answers a next state, and it is that of its form. -/
theorem exec_effect (i : Instr) (s : State) : ∃ t, exec i s = .next t ∧ Effect s i t := by
  cases i.view with
  | mov dst src h => exact ⟨_, exec_ofMov dst src h s, .mov dst src h⟩
  | mvi dst d8 => exact ⟨_, exec_ofMvi dst d8 s, .mvi dst d8⟩
  | lxi rp d16 => exact ⟨_, exec_ofLxi rp d16 s, .lxi rp d16⟩
  | ldax rp => exact ⟨_, exec_ofLdax rp s, .ldax rp⟩
  | stax rp => exact ⟨_, exec_ofStax rp s, .stax rp⟩
  | alu op r => exact ⟨_, exec_ofAlu op r s, .alu op r⟩
  | aluImm op d8 => exact ⟨_, exec_ofAluImm op d8 s, .aluImm op d8⟩
  | inr r => exact ⟨_, exec_ofInr r s, .inr r⟩
  | dcr r => exact ⟨_, exec_ofDcr r s, .dcr r⟩
  | dad rp => exact ⟨_, exec_ofDad rp s, .dad rp⟩
  | inx rp => exact ⟨_, exec_ofInx rp s, .inx rp⟩
  | dcx rp => exact ⟨_, exec_ofDcx rp s, .dcx rp⟩
  | push rp => exact ⟨_, exec_ofPush rp s, .push rp⟩
  | pop rp => exact ⟨_, exec_ofPop rp s, .pop rp⟩
  | jump cc a16 => exact ⟨_, exec_ofJump cc a16 s, .jump cc a16⟩
  | callIf cc a16 => exact ⟨_, exec_ofCall cc a16 s, .callIf cc a16⟩
  | returnIf cc => exact ⟨_, exec_ofReturn cc s, .returnIf cc⟩
  | rst n => exact ⟨_, exec_ofRst n s, .rst n⟩
  | lda a16 => exact ⟨_, exec_lda a16 s, .lda a16⟩
  | sta a16 => exact ⟨_, exec_sta a16 s, .sta a16⟩
  | lhld a16 => exact ⟨_, exec_lhld a16 s, .lhld a16⟩
  | shld a16 => exact ⟨_, exec_shld a16 s, .shld a16⟩
  | xchg => exact ⟨_, exec_xchg s, .xchg⟩
  | rlc => exact ⟨_, exec_rlc s, .rlc⟩
  | rrc => exact ⟨_, exec_rrc s, .rrc⟩
  | ral => exact ⟨_, exec_ral s, .ral⟩
  | rar => exact ⟨_, exec_rar s, .rar⟩
  | cma => exact ⟨_, exec_cma s, .cma⟩
  | stc => exact ⟨_, exec_stc s, .stc⟩
  | cmc => exact ⟨_, exec_cmc s, .cmc⟩
  | xthl => exact ⟨_, exec_xthl s, .xthl⟩
  | sphl => exact ⟨_, exec_sphl s, .sphl⟩
  | jmp a16 => exact ⟨_, exec_jmp a16 s, .jmp a16⟩
  | call a16 => exact ⟨_, exec_call a16 s, .call a16⟩
  | ret => exact ⟨_, exec_ret s, .ret⟩
  | pchl => exact ⟨_, exec_pchl s, .pchl⟩
  | inPort p => exact ⟨_, exec_inPort p s, .inPort p⟩
  | outPort p => exact ⟨_, exec_outPort p s, .outPort p⟩
  | nop => exact ⟨_, exec_nop s, .nop⟩
  | hlt => exact ⟨_, exec_hlt s, .hlt⟩
  | di => exact ⟨_, exec_di s, .di⟩
  | ei => exact ⟨_, exec_ei s, .ei⟩
  | unsupported op => exact ⟨_, exec_unsupported op s, .unsupported op⟩
  | unsupportedDAA => exact ⟨_, exec_unsupportedDAA s, .unsupportedDAA⟩

/-- The inversion lemma of `exec`: an answered next state is that of the instruction's form. -/
theorem effect_of_exec {i : Instr} {s t : State} (h : exec i s = .next t) : Effect s i t := by
  obtain ⟨u, hu, e⟩ := exec_effect i s
  rw [hu] at h
  cases h
  exact e

end Sys2Proof.Machine
end

