-- ==== Sys2Proof/Tests/Slice0.lean ====
section
/-! SUPPORT. The model's own tests: the WellFormed smoke test, the word of every constructor, one step of each instruction
against spec/95_test_vectors.md, and for every statement with hypotheses a witness that meets them. -/

namespace Sys2Proof.Tests

open Sys2Proof Sys2Proof.Machine

/-! ### Well-formed terms (30_encoding.md R98) -/

theorem test_wf_refuses_a_documented_byte_as_unsupported : (Instr.unsupported 0x00#8).wf = false := by decide
theorem test_wf_refuses_daa_as_an_undocumented_byte : (Instr.unsupported 0x27#8).wf = false := by decide
theorem test_wf_accepts_an_undocumented_byte : (Instr.unsupported 0xFD#8).wf = true := by decide

/-! ### Decoding: the word of every constructor, from the opcode map (30_encoding.md R97), operand bytes 0x34 0x12 -/

/-- Every pair's opcode byte, followed by the bytes 0x34 and 0x12, decodes to the pair's instruction. -/
def decodesTo (l : List (Nat × Instr)) : Bool := l.all fun p => decodeTableWord 24 (p.1 + 0x123400) == some p.2

theorem test_decode_row_0 :
    decodesTo [(0x00, .nop), (0x01, .lxiB 0x1234#16), (0x02, .staxB), (0x03, .inxB),
      (0x04, .inrB), (0x05, .dcrB), (0x06, .mviB 0x34#8), (0x07, .rlc),
      (0x08, .unsupported 0x08#8), (0x09, .dadB), (0x0A, .ldaxB), (0x0B, .dcxB),
      (0x0C, .inrC), (0x0D, .dcrC), (0x0E, .mviC 0x34#8), (0x0F, .rrc)] = true := by decide

theorem test_decode_row_1 :
    decodesTo [(0x10, .unsupported 0x10#8), (0x11, .lxiD 0x1234#16), (0x12, .staxD), (0x13, .inxD),
      (0x14, .inrD), (0x15, .dcrD), (0x16, .mviD 0x34#8), (0x17, .ral),
      (0x18, .unsupported 0x18#8), (0x19, .dadD), (0x1A, .ldaxD), (0x1B, .dcxD),
      (0x1C, .inrE), (0x1D, .dcrE), (0x1E, .mviE 0x34#8), (0x1F, .rar)] = true := by decide

theorem test_decode_row_2 :
    decodesTo [(0x20, .unsupported 0x20#8), (0x21, .lxiH 0x1234#16), (0x22, .shld 0x1234#16), (0x23, .inxH),
      (0x24, .inrH), (0x25, .dcrH), (0x26, .mviH 0x34#8), (0x27, .unsupportedDAA),
      (0x28, .unsupported 0x28#8), (0x29, .dadH), (0x2A, .lhld 0x1234#16), (0x2B, .dcxH),
      (0x2C, .inrL), (0x2D, .dcrL), (0x2E, .mviL 0x34#8), (0x2F, .cma)] = true := by decide

theorem test_decode_row_3 :
    decodesTo [(0x30, .unsupported 0x30#8), (0x31, .lxiSP 0x1234#16), (0x32, .sta 0x1234#16), (0x33, .inxSP),
      (0x34, .inrM), (0x35, .dcrM), (0x36, .mviM 0x34#8), (0x37, .stc),
      (0x38, .unsupported 0x38#8), (0x39, .dadSP), (0x3A, .lda 0x1234#16), (0x3B, .dcxSP),
      (0x3C, .inrA), (0x3D, .dcrA), (0x3E, .mviA 0x34#8), (0x3F, .cmc)] = true := by decide

theorem test_decode_row_4 :
    decodesTo [(0x40, .movBB), (0x41, .movBC), (0x42, .movBD), (0x43, .movBE),
      (0x44, .movBH), (0x45, .movBL), (0x46, .movBM), (0x47, .movBA),
      (0x48, .movCB), (0x49, .movCC), (0x4A, .movCD), (0x4B, .movCE),
      (0x4C, .movCH), (0x4D, .movCL), (0x4E, .movCM), (0x4F, .movCA)] = true := by decide

theorem test_decode_row_5 :
    decodesTo [(0x50, .movDB), (0x51, .movDC), (0x52, .movDD), (0x53, .movDE),
      (0x54, .movDH), (0x55, .movDL), (0x56, .movDM), (0x57, .movDA),
      (0x58, .movEB), (0x59, .movEC), (0x5A, .movED), (0x5B, .movEE),
      (0x5C, .movEH), (0x5D, .movEL), (0x5E, .movEM), (0x5F, .movEA)] = true := by decide

theorem test_decode_row_6 :
    decodesTo [(0x60, .movHB), (0x61, .movHC), (0x62, .movHD), (0x63, .movHE),
      (0x64, .movHH), (0x65, .movHL), (0x66, .movHM), (0x67, .movHA),
      (0x68, .movLB), (0x69, .movLC), (0x6A, .movLD), (0x6B, .movLE),
      (0x6C, .movLH), (0x6D, .movLL), (0x6E, .movLM), (0x6F, .movLA)] = true := by decide

theorem test_decode_row_7 :
    decodesTo [(0x70, .movMB), (0x71, .movMC), (0x72, .movMD), (0x73, .movME),
      (0x74, .movMH), (0x75, .movML), (0x76, .hlt), (0x77, .movMA),
      (0x78, .movAB), (0x79, .movAC), (0x7A, .movAD), (0x7B, .movAE),
      (0x7C, .movAH), (0x7D, .movAL), (0x7E, .movAM), (0x7F, .movAA)] = true := by decide

theorem test_decode_row_8 :
    decodesTo [(0x80, .addB), (0x81, .addC), (0x82, .addD), (0x83, .addE),
      (0x84, .addH), (0x85, .addL), (0x86, .addM), (0x87, .addA),
      (0x88, .adcB), (0x89, .adcC), (0x8A, .adcD), (0x8B, .adcE),
      (0x8C, .adcH), (0x8D, .adcL), (0x8E, .adcM), (0x8F, .adcA)] = true := by decide

theorem test_decode_row_9 :
    decodesTo [(0x90, .subB), (0x91, .subC), (0x92, .subD), (0x93, .subE),
      (0x94, .subH), (0x95, .subL), (0x96, .subM), (0x97, .subA),
      (0x98, .sbbB), (0x99, .sbbC), (0x9A, .sbbD), (0x9B, .sbbE),
      (0x9C, .sbbH), (0x9D, .sbbL), (0x9E, .sbbM), (0x9F, .sbbA)] = true := by decide

theorem test_decode_row_A :
    decodesTo [(0xA0, .anaB), (0xA1, .anaC), (0xA2, .anaD), (0xA3, .anaE),
      (0xA4, .anaH), (0xA5, .anaL), (0xA6, .anaM), (0xA7, .anaA),
      (0xA8, .xraB), (0xA9, .xraC), (0xAA, .xraD), (0xAB, .xraE),
      (0xAC, .xraH), (0xAD, .xraL), (0xAE, .xraM), (0xAF, .xraA)] = true := by decide

theorem test_decode_row_B :
    decodesTo [(0xB0, .oraB), (0xB1, .oraC), (0xB2, .oraD), (0xB3, .oraE),
      (0xB4, .oraH), (0xB5, .oraL), (0xB6, .oraM), (0xB7, .oraA),
      (0xB8, .cmpB), (0xB9, .cmpC), (0xBA, .cmpD), (0xBB, .cmpE),
      (0xBC, .cmpH), (0xBD, .cmpL), (0xBE, .cmpM), (0xBF, .cmpA)] = true := by decide

theorem test_decode_row_C :
    decodesTo [(0xC0, .rnz), (0xC1, .popB), (0xC2, .jnz 0x1234#16), (0xC3, .jmp 0x1234#16),
      (0xC4, .cnz 0x1234#16), (0xC5, .pushB), (0xC6, .adi 0x34#8), (0xC7, .rst0),
      (0xC8, .rz), (0xC9, .ret), (0xCA, .jz 0x1234#16), (0xCB, .unsupported 0xCB#8),
      (0xCC, .cz 0x1234#16), (0xCD, .call 0x1234#16), (0xCE, .aci 0x34#8), (0xCF, .rst1)] = true := by decide

theorem test_decode_row_D :
    decodesTo [(0xD0, .rnc), (0xD1, .popD), (0xD2, .jnc 0x1234#16), (0xD3, .outPort 0x34#8),
      (0xD4, .cnc 0x1234#16), (0xD5, .pushD), (0xD6, .sui 0x34#8), (0xD7, .rst2),
      (0xD8, .rc), (0xD9, .unsupported 0xD9#8), (0xDA, .jc 0x1234#16), (0xDB, .inPort 0x34#8),
      (0xDC, .cc 0x1234#16), (0xDD, .unsupported 0xDD#8), (0xDE, .sbi 0x34#8), (0xDF, .rst3)] = true := by decide

theorem test_decode_row_E :
    decodesTo [(0xE0, .rpo), (0xE1, .popH), (0xE2, .jpo 0x1234#16), (0xE3, .xthl),
      (0xE4, .cpo 0x1234#16), (0xE5, .pushH), (0xE6, .ani 0x34#8), (0xE7, .rst4),
      (0xE8, .rpe), (0xE9, .pchl), (0xEA, .jpe 0x1234#16), (0xEB, .xchg),
      (0xEC, .cpe 0x1234#16), (0xED, .unsupported 0xED#8), (0xEE, .xri 0x34#8), (0xEF, .rst5)] = true := by decide

theorem test_decode_row_F :
    decodesTo [(0xF0, .rp), (0xF1, .popPSW), (0xF2, .jp 0x1234#16), (0xF3, .di),
      (0xF4, .cp 0x1234#16), (0xF5, .pushPSW), (0xF6, .ori 0x34#8), (0xF7, .rst6),
      (0xF8, .rm), (0xF9, .sphl), (0xFA, .jm 0x1234#16), (0xFB, .ei),
      (0xFC, .cm 0x1234#16), (0xFD, .unsupported 0xFD#8), (0xFE, .cpi 0x34#8), (0xFF, .rst7)] = true := by decide

/-- Operand words the table gives no bits are zero (decodeTableWord), and a short list of bytes holds no instruction. -/
theorem test_decode_table_word : decodeTableWord 8 0xCD = some (.call 0x0000#16) ∧ decodeTableWord 16 0x40FE = some (.cpi 0x40#8) := by
  decide
theorem test_decode_truncated : decode [0xC3#8, 0x00#8] = .error (.truncated 0xC3#8) := rfl
theorem test_decode_no_bytes : decode [] = .error .noBytes := rfl

/-! ### One step of each instruction (spec/95_test_vectors.md) -/

/-- The reset state with bytes loaded at an address. -/
def loaded (offset : Word) (bytes : List Byte) : State := State.reset.loadImage bytes offset

/-- The state after one step; the state itself where the step stops. -/
def after (s : State) : State :=
  match step s with
  | .next t => t
  | _ => s

/-- One step of the byte `op` with A, B and the flags of a flag byte: A and F after it. -/
def aluStep (op a b f : Byte) : Byte × Byte :=
  let t := after { loaded 0x0000#16 [op] with a := a, b := b, fl := unpackF f }
  (t.a, t.fl.pack)

/-- T2.1 -/
theorem test_add : [(0x01#8, 0xFF#8), (0x80#8, 0xFF#8), (0x7F#8, 0x7F#8)].map (fun p => aluStep 0x80#8 p.1 p.2 0x03#8) =
    [(0x00#8, 0x57#8), (0x7F#8, 0x03#8), (0xFE#8, 0x92#8)] := by decide
/-- T2.2 -/
theorem test_adc : [(0x01#8, 0xFF#8), (0x7F#8, 0x80#8), (0xFF#8, 0x80#8)].map (fun p => aluStep 0x88#8 p.1 p.2 0x03#8) =
    [(0x01#8, 0x13#8), (0x00#8, 0x57#8), (0x80#8, 0x93#8)] := by decide
/-- T2.3 -/
theorem test_sub : [(0x00#8, 0x80#8), (0x80#8, 0x01#8), (0xFF#8, 0xFF#8)].map (fun p => aluStep 0x90#8 p.1 p.2 0x03#8) =
    [(0x80#8, 0x93#8), (0x7F#8, 0x02#8), (0x00#8, 0x56#8)] := by decide
/-- T2.4 -/
theorem test_sbb : [(0x00#8, 0xFF#8), (0x80#8, 0x7F#8), (0xFF#8, 0x80#8)].map (fun p => aluStep 0x98#8 p.1 p.2 0x03#8) =
    [(0x00#8, 0x47#8), (0x00#8, 0x46#8), (0x7E#8, 0x16#8)] := by decide
/-- T2.5 -/
theorem test_cmp : [(0x7F#8, 0xFF#8), (0x80#8, 0x01#8), (0xFF#8, 0xFF#8)].map (fun p => aluStep 0xB8#8 p.1 p.2 0x02#8) =
    [(0x7F#8, 0x93#8), (0x80#8, 0x02#8), (0xFF#8, 0x56#8)] := by decide
/-- Section 3, C and AC set before. -/
theorem test_ana : aluStep 0xA0#8 0xFF#8 0x0F#8 0x13#8 = (0x0F#8, 0x06#8) ∧ aluStep 0xA0#8 0xAA#8 0x55#8 0x13#8 = (0x00#8, 0x46#8) := by
  decide
theorem test_xra : aluStep 0xA8#8 0xFF#8 0x0F#8 0x13#8 = (0xF0#8, 0x86#8) ∧ aluStep 0xAF#8 0x5A#8 0x00#8 0x13#8 = (0x00#8, 0x46#8) := by
  decide
theorem test_ora : aluStep 0xB0#8 0x80#8 0x80#8 0x13#8 = (0x80#8, 0x82#8) ∧ aluStep 0xB0#8 0xAA#8 0x55#8 0x13#8 = (0xFF#8, 0x86#8) := by
  decide

/-- One step of an immediate instruction: A and F after it. -/
def immStep (op d8 a f : Byte) : Byte × Byte :=
  let t := after { loaded 0x0000#16 [op, d8] with a := a, fl := unpackF f }
  (t.a, t.fl.pack)

/-- The rows of T2.1 to T2.4 as immediates. -/
theorem test_adi : immStep 0xC6#8 0x7F#8 0x01#8 0x03#8 = (0x80#8, 0x92#8) := by decide
theorem test_aci : immStep 0xCE#8 0x01#8 0x01#8 0x03#8 = (0x03#8, 0x06#8) := by decide
theorem test_sui : immStep 0xD6#8 0x01#8 0x00#8 0x03#8 = (0xFF#8, 0x87#8) := by decide
theorem test_sbi : immStep 0xDE#8 0x80#8 0x01#8 0x03#8 = (0x80#8, 0x93#8) := by decide
/-- Section 3. -/
theorem test_ani : immStep 0xE6#8 0x0F#8 0x3A#8 0x13#8 = (0x0A#8, 0x06#8) := by decide
theorem test_xri : immStep 0xEE#8 0xFF#8 0x00#8 0x13#8 = (0xFF#8, 0x86#8) := by decide
theorem test_ori : immStep 0xF6#8 0x80#8 0x01#8 0x13#8 = (0x81#8, 0x86#8) := by decide
theorem test_cpi : immStep 0xFE#8 0x40#8 0x40#8 0x02#8 = (0x40#8, 0x56#8) ∧ immStep 0xFE#8 0x41#8 0x40#8 0x02#8 = (0x40#8, 0x87#8) := by
  decide

/-- One step of INR B or DCR B with C set: B and F after it. -/
def countStep (op b : Byte) : Byte × Byte :=
  let t := after { loaded 0x0000#16 [op] with b := b, fl := unpackF 0x03#8 }
  (t.b, t.fl.pack)

/-- Section 4. -/
theorem test_inr : countStep 0x04#8 0x0F#8 = (0x10#8, 0x13#8) ∧ countStep 0x04#8 0xFF#8 = (0x00#8, 0x57#8) := by decide
theorem test_dcr : countStep 0x05#8 0x00#8 = (0xFF#8, 0x87#8) ∧ countStep 0x05#8 0x01#8 = (0x00#8, 0x57#8) := by decide
/-- T4.1, T4.2 -/
theorem test_inr_m :
    let t := after (({ loaded 0x0000#16 [0x34#8] with h := 0x20#8 } : State).write8 0x2000#16 0xFF#8)
    t.read8 0x2000#16 = 0x00#8 ∧ t.fl.pack = 0x56#8 ∧ t.pc = 0x0001#16 := by decide
theorem test_dcr_m :
    let t := after { loaded 0x0000#16 [0x35#8] with h := 0x20#8 }
    t.read8 0x2000#16 = 0xFF#8 ∧ t.fl.pack = 0x86#8 := by decide
/-- Section 4, DAD B with Z set before; T4.4. -/
theorem test_dad :
    let t := after { loaded 0x0000#16 [0x09#8] with h := 0xFF#8, l := 0xFF#8, c := 0x01#8, fl := unpackF 0x42#8 }
    t.pair .hl = 0x0000#16 ∧ t.fl.pack = 0x43#8 := by decide
theorem test_dad_sp :
    let t := after { loaded 0x0000#16 [0x39#8] with sp := 0x23FE#16 }
    t.pair .hl = 0x23FE#16 ∧ t.fl.c = false ∧ t.sp = 0x23FE#16 := by decide
/-- Section 4, flags all set before. -/
theorem test_inx :
    let t := after { loaded 0x0000#16 [0x13#8] with e := 0xFF#8, fl := unpackF 0xD7#8 }
    t.pair .de = 0x0100#16 ∧ t.fl.pack = 0xD7#8 := by decide
theorem test_inx_sp : (after { loaded 0x0000#16 [0x33#8] with sp := 0xFFFF#16 }).sp = 0x0000#16 := by decide
theorem test_dcx :
    let t := after { loaded 0x0000#16 [0x2B#8] with fl := unpackF 0xD7#8 }
    t.pair .hl = 0xFFFF#16 ∧ t.fl.pack = 0xD7#8 := by decide

/-- One step of a rotate, CMA, STC or CMC with Z set: A and F after it. -/
def rotateStep (op a : Byte) (c : Bool) : Byte × Byte :=
  let t := after { loaded 0x0000#16 [op] with a := a, fl := { (unpackF 0x42#8) with c := c } }
  (t.a, t.fl.pack)

/-- Section 5. -/
theorem test_rlc : rotateStep 0x07#8 0x81#8 false = (0x03#8, 0x43#8) ∧ rotateStep 0x07#8 0x01#8 true = (0x02#8, 0x42#8) := by decide
theorem test_rrc : rotateStep 0x0F#8 0x01#8 false = (0x80#8, 0x43#8) ∧ rotateStep 0x0F#8 0x80#8 true = (0x40#8, 0x42#8) := by decide
theorem test_ral : rotateStep 0x17#8 0x01#8 true = (0x03#8, 0x42#8) ∧ rotateStep 0x17#8 0x81#8 false = (0x02#8, 0x43#8) := by decide
theorem test_rar : rotateStep 0x1F#8 0x01#8 true = (0x80#8, 0x43#8) ∧ rotateStep 0x1F#8 0xFF#8 false = (0x7F#8, 0x43#8) := by decide
theorem test_cma : rotateStep 0x2F#8 0x51#8 false = (0xAE#8, 0x42#8) := by decide
theorem test_stc : rotateStep 0x37#8 0x51#8 false = (0x51#8, 0x43#8) := by decide
theorem test_cmc : rotateStep 0x3F#8 0x00#8 true = (0x00#8, 0x42#8) ∧ rotateStep 0x3F#8 0x51#8 false = (0x51#8, 0x43#8) := by decide
/-- Section 5, the flag byte and parity. -/
theorem test_flag_byte : [0x00#8, 0xFF#8, 0x28#8, 0x57#8, 0x80#8].map (fun f => (unpackF f).pack) =
    [0x02#8, 0xD7#8, 0x02#8, 0x57#8, 0x82#8] := by decide
theorem test_parity : [0x00#8, 0x01#8, 0x03#8, 0x07#8, 0x7F#8, 0x81#8, 0xFE#8, 0xFF#8].map parity8 =
    [true, false, true, false, false, true, false, true] := by decide

/-- T6.1 -/
theorem test_mov :
    let t := after { loaded 0x0000#16 [0x41#8] with c := 0x5A#8, fl := unpackF 0xD7#8 }
    t.b = 0x5A#8 ∧ t.pc = 0x0001#16 ∧ t.fl.pack = 0xD7#8 := by decide
/-- T6.7, T6.8 -/
theorem test_mov_to_m : (after { loaded 0x0000#16 [0x77#8] with h := 0x24#8, a := 0xFF#8 }).read8 0x2400#16 = 0xFF#8 := by decide
theorem test_mov_from_m :
    let t := after (({ loaded 0x0000#16 [0x66#8] with h := 0x20#8, l := 0x10#8 } : State).write8 0x2010#16 0x30#8)
    t.h = 0x30#8 ∧ t.l = 0x10#8 := by decide
/-- T6.19, the instruction wraps; T6.9. -/
theorem test_mvi_wraps :
    let t := after { loaded 0xFFFF#16 [0x3E#8, 0x12#8] with pc := 0xFFFF#16 }
    t.a = 0x12#8 ∧ t.pc = 0x0001#16 := by decide
theorem test_mvi_m : (after { loaded 0x0000#16 [0x36#8, 0xAB#8] with h := 0x20#8, l := 0x01#8 }).read8 0x2001#16 = 0xAB#8 := by decide
/-- T6.2, T6.6 -/
theorem test_lxi :
    let t := after (loaded 0x0000#16 [0x01#8, 0x34#8, 0x12#8])
    t.b = 0x12#8 ∧ t.c = 0x34#8 ∧ t.pc = 0x0003#16 := by decide
theorem test_lxi_sp : (after (loaded 0x0000#16 [0x31#8, 0x00#8, 0x24#8])).sp = 0x2400#16 := by decide
/-- T6.10 to T6.13 -/
theorem test_lda : (after ((loaded 0x0000#16 [0x3A#8, 0xC0#8, 0x20#8]).write8 0x20C0#16 0x09#8)).a = 0x09#8 := by decide
theorem test_sta : (after { loaded 0x0000#16 [0x32#8, 0x00#8, 0x21#8] with a := 0x55#8 }).read8 0x2100#16 = 0x55#8 := by decide
theorem test_ldax : (after (({ loaded 0x0000#16 [0x1A#8] with d := 0x1B#8 } : State).write8 0x1B00#16 0x3C#8)).a = 0x3C#8 := by decide
theorem test_stax : (after { loaded 0x0000#16 [0x02#8] with b := 0x20#8, c := 0x05#8, a := 0x99#8 }).read8 0x2005#16 = 0x99#8 := by
  decide
/-- T6.17, T6.16: two-byte accesses that wrap. -/
theorem test_lhld_wraps :
    let t := after { ((loaded 0x0100#16 [0x2A#8, 0xFF#8, 0xFF#8]).write8 0xFFFF#16 0x11#8).write8 0x0000#16 0x22#8 with pc := 0x0100#16 }
    t.h = 0x22#8 ∧ t.l = 0x11#8 := by decide
theorem test_shld_wraps :
    let t := after { loaded 0x0100#16 [0x22#8, 0xFF#8, 0xFF#8] with pc := 0x0100#16, h := 0xAB#8, l := 0xCD#8 }
    t.read8 0xFFFF#16 = 0xCD#8 ∧ t.read8 0x0000#16 = 0xAB#8 ∧ t.pc = 0x0103#16 := by decide
/-- T6.18 -/
theorem test_xchg :
    let t := after { loaded 0x0000#16 [0xEB#8] with d := 0x12#8, e := 0x34#8, h := 0xAB#8, l := 0xCD#8 }
    (t.d, t.e, t.h, t.l) = (0xAB#8, 0xCD#8, 0x12#8, 0x34#8) := by decide

/-- T7.2, T7.3 -/
theorem test_push_psw :
    let t := after { loaded 0x0000#16 [0xF5#8] with a := 0x9C#8, fl := unpackF 0xD7#8, sp := 0x2400#16 }
    t.read8 0x23FF#16 = 0x9C#8 ∧ t.read8 0x23FE#16 = 0xD7#8 ∧ t.sp = 0x23FE#16 := by decide
theorem test_push_wraps :
    let t := after { loaded 0x0100#16 [0xE5#8] with pc := 0x0100#16, h := 0xAA#8, l := 0xBB#8, sp := 0x0001#16 }
    t.read8 0x0000#16 = 0xAA#8 ∧ t.read8 0xFFFF#16 = 0xBB#8 ∧ t.sp = 0xFFFF#16 := by decide
/-- T7.4, T7.6 -/
theorem test_pop_wraps :
    let t := after { (loaded 0x0100#16 [0xC1#8]).write16 0xFFFF#16 0x2211#16 with pc := 0x0100#16, sp := 0xFFFF#16 }
    t.b = 0x22#8 ∧ t.c = 0x11#8 ∧ t.sp = 0x0001#16 := by decide
theorem test_pop_psw :
    let t := after { (loaded 0x0000#16 [0xF1#8]).write16 0x23FE#16 0x77FF#16 with sp := 0x23FE#16 }
    t.a = 0x77#8 ∧ t.fl.pack = 0xD7#8 ∧ t.sp = 0x2400#16 := by decide
/-- T7.7, T7.8 -/
theorem test_xthl :
    let t := after { (loaded 0x0000#16 [0xE3#8]).write16 0x10AD#16 0x0DF0#16 with sp := 0x10AD#16, h := 0x0B#8, l := 0x3C#8 }
    t.h = 0x0D#8 ∧ t.l = 0xF0#8 ∧ t.read8 0x10AD#16 = 0x3C#8 ∧ t.read8 0x10AE#16 = 0x0B#8 ∧ t.sp = 0x10AD#16 := by decide
theorem test_sphl : (after { loaded 0x0000#16 [0xF9#8] with h := 0x50#8, l := 0x6C#8 }).sp = 0x506C#16 := by decide

/-- PC after one step of the three bytes `op 0x34 0x12` at 0x0100 with a flag byte. -/
def jumpStep (op f : Byte) : Word := (after { loaded 0x0100#16 [op, 0x34#8, 0x12#8] with pc := 0x0100#16, fl := unpackF f }).pc

/-- T8.2: the opcode, the flag byte with only the tested flag set; PC with the flag 0 and with the flag 1. -/
theorem test_conditional_jumps :
    [(0xC2#8, 0x42#8), (0xCA#8, 0x42#8), (0xD2#8, 0x03#8), (0xDA#8, 0x03#8), (0xE2#8, 0x06#8), (0xEA#8, 0x06#8), (0xF2#8, 0x82#8),
     (0xFA#8, 0x82#8)].map (fun p => (jumpStep p.1 0x02#8, jumpStep p.1 p.2)) =
    [(0x1234#16, 0x0103#16), (0x0103#16, 0x1234#16), (0x1234#16, 0x0103#16), (0x0103#16, 0x1234#16), (0x1234#16, 0x0103#16),
     (0x0103#16, 0x1234#16), (0x1234#16, 0x0103#16), (0x0103#16, 0x1234#16)] := by decide
theorem test_jmp : jumpStep 0xC3#8 0x02#8 = 0x1234#16 := by decide
theorem test_pchl : (after { loaded 0x0000#16 [0xE9#8] with h := 0x12#8, l := 0x34#8 }).pc = 0x1234#16 := by decide
/-- T8.1 -/
theorem test_call :
    let t := after { loaded 0x0100#16 [0xCD#8, 0x00#8, 0x10#8] with pc := 0x0100#16, sp := 0x2400#16 }
    t.pc = 0x1000#16 ∧ t.sp = 0x23FE#16 ∧ t.read8 0x23FF#16 = 0x01#8 ∧ t.read8 0x23FE#16 = 0x03#8 := by decide
theorem test_ret :
    let t := after { (loaded 0x1000#16 [0xC9#8]).write16 0x23FE#16 0x0103#16 with pc := 0x1000#16, sp := 0x23FE#16 }
    t.pc = 0x0103#16 ∧ t.sp = 0x2400#16 := by decide

/-- PC and SP after one step of `op 0x34 0x12` at 0x0100. -/
def callStep (op f : Byte) : Word × Word :=
  let t := after { loaded 0x0100#16 [op, 0x34#8, 0x12#8] with pc := 0x0100#16, sp := 0x2400#16, fl := unpackF f }
  (t.pc, t.sp)

/-- PC and SP after one step of a conditional return at 0x0100, the return address 0x0203 on the stack. -/
def returnStep (op f : Byte) : Word × Word :=
  let t := after { (loaded 0x0100#16 [op]).write16 0x23FE#16 0x0203#16 with pc := 0x0100#16, sp := 0x23FE#16, fl := unpackF f }
  (t.pc, t.sp)

/-- The flag bytes that make the eight conditions true, in code order, and false. -/
def trueFlags : List Byte := [0x02#8, 0x42#8, 0x02#8, 0x03#8, 0x02#8, 0x06#8, 0x02#8, 0x82#8]
def falseFlags : List Byte := [0x42#8, 0x02#8, 0x03#8, 0x02#8, 0x06#8, 0x02#8, 0x82#8, 0x02#8]

/-- T8.3 -/
theorem test_conditional_calls :
    List.zipWith callStep [0xC4#8, 0xCC#8, 0xD4#8, 0xDC#8, 0xE4#8, 0xEC#8, 0xF4#8, 0xFC#8] trueFlags =
      List.replicate 8 (0x1234#16, 0x23FE#16) ∧
    List.zipWith callStep [0xC4#8, 0xCC#8, 0xD4#8, 0xDC#8, 0xE4#8, 0xEC#8, 0xF4#8, 0xFC#8] falseFlags =
      List.replicate 8 (0x0103#16, 0x2400#16) := by decide
theorem test_conditional_returns :
    List.zipWith returnStep [0xC0#8, 0xC8#8, 0xD0#8, 0xD8#8, 0xE0#8, 0xE8#8, 0xF0#8, 0xF8#8] trueFlags =
      List.replicate 8 (0x0203#16, 0x2400#16) ∧
    List.zipWith returnStep [0xC0#8, 0xC8#8, 0xD0#8, 0xD8#8, 0xE0#8, 0xE8#8, 0xF0#8, 0xF8#8] falseFlags =
      List.replicate 8 (0x0101#16, 0x23FE#16) := by decide
/-- 45_branch.md R210, R211: RST n at 0x0100. -/
theorem test_rst :
    [0xC7#8, 0xCF#8, 0xD7#8, 0xDF#8, 0xE7#8, 0xEF#8, 0xF7#8, 0xFF#8].map (fun op => callStep op 0x02#8) =
      [(0x0000#16, 0x23FE#16), (0x0008#16, 0x23FE#16), (0x0010#16, 0x23FE#16), (0x0018#16, 0x23FE#16), (0x0020#16, 0x23FE#16),
       (0x0028#16, 0x23FE#16), (0x0030#16, 0x23FE#16), (0x0038#16, 0x23FE#16)] := by decide

/-- S8: the shift register after OUT 4 of 0x34 over 0x1200, and IN 3 of 0x3412 shifted by 5. -/
theorem test_out : (after { loaded 0x0000#16 [0xD3#8, 0x04#8] with a := 0x34#8, shiftReg := 0x1200#16 }).shiftReg = 0x3412#16 ∧
    (after { loaded 0x0000#16 [0xD3#8, 0x02#8] with a := 0x0D#8 }).shiftAmount = 5#3 := by decide
theorem test_in : (after { loaded 0x0000#16 [0xDB#8, 0x03#8] with shiftReg := 0x3412#16, shiftAmount := 5#3 }).a = 0x82#8 ∧
    (after { loaded 0x0000#16 [0xDB#8, 0x05#8] with a := 0xFF#8 }).a = 0x00#8 := by decide
/-- 60_exceptions.md R249: port 1 gives the free input of this read. -/
theorem test_in_free : (after (loaded 0x0000#16 [0xDB#8, 0x01#8])).a = Config.portIn 0x01#8 0 := rfl

/-- 47_control.md R220 to R223 -/
theorem test_nop : after State.reset = { State.reset with pc := 0x0001#16 } := by decide
theorem test_hlt : (after (loaded 0x0000#16 [0x76#8])).run = .halted ∧ (after (loaded 0x0000#16 [0x76#8])).pc = 0x0001#16 := by decide
theorem test_ei : (after (loaded 0x0000#16 [0xFB#8])).inte = true := by decide
theorem test_di : (after { loaded 0x0000#16 [0xF3#8] with inte := true }).inte = false := by decide
/-- S9, program P5: the fault record is (0x0002, 0xDD) and nothing else changes. -/
theorem test_unsupported :
    let s : State := { loaded 0x0002#16 [0xDD#8] with pc := 0x0002#16, a := 0x01#8 }
    after s = { s with run := .faulted } ∧ s.stepReport defaultCycles = .unsupportedOpcode 0x0002#16 0xDD#8 := by decide
theorem test_daa_is_unsupported : (after (loaded 0x0000#16 [0x27#8])).run = .faulted := by decide
/-- Program P6, the default table: RZ costs 5 not taken and 11 taken, CC taken 17. -/
theorem test_cycles : defaultCycles 0xC8#8 false = 5 ∧ defaultCycles 0xC8#8 true = 11 ∧ defaultCycles 0xDC#8 true = 17 := by decide
/-- `withFetchWord` places the instruction and makes the machine run it, from a stopped state too. -/
theorem test_with_fetch_word :
    (after (State.reset.withFetchWord 8 0xFF)).pc = 0x0038#16 ∧
    (after (({ State.reset with run := .halted } : State).withFetchWord 24 0x1234CD)).pc = 0x1234#16 := by decide

/-! ### Witnesses: for every statement with hypotheses, inputs that meet them, clause by clause -/

/-- A state with registers, flags and memory all in use. -/
def busy : State :=
  { loaded 0x0100#16 [0xCD#8, 0x00#8, 0x10#8] with
    a := 0x9C#8, b := 0x12#8, h := 0x24#8, l := 0x01#8, fl := unpackF 0xD7#8, pc := 0x0100#16, sp := 0x2400#16, inte := true,
    shiftReg := 0x3412#16, shiftAmount := 5#3 }

theorem witness_WordAccessIsLittleEndian : (0x0001#16 : Word) ≠ 0xFFFF#16 ∧ (0x0001#16 : Word) ≠ 0xFFFF#16 + 1 := by decide
theorem witness_CanonicalMemoryIsUnique :
    Memory.wf [(0, 0x01#8), (65535, 0xFF#8)] = true ∧
    (∀ addr : Word, Memory.read [(0, 0x01#8), (65535, 0xFF#8)] addr.toNat = Memory.read [(0, 0x01#8), (65535, 0xFF#8)] addr.toNat) ∧
    busy.mem.wf = true := ⟨by decide, fun _ => rfl, by decide⟩
theorem witness_EveryStepKeepsMemoryCanonical : busy.mem.wf = true ∧ step busy = .next (after busy) := ⟨by decide, rfl⟩
theorem witness_DecodeOfEncodeIsTheInstruction : (Instr.call 0xFFFF#16).wf = true ∧ (Instr.unsupported 0x08#8).wf = true := by decide
theorem witness_EncodeOfDecodeIsTheBytes :
    decode [0xC3#8, 0xFF#8, 0x00#8, 0x76#8] = .ok (.jmp 0x00FF#16, [0x76#8]) ∧ decode [0xFD#8] = .ok (.unsupported 0xFD#8, []) :=
  ⟨rfl, rfl⟩
theorem witness_UnsupportedBytesAreTheThirteen : IsUnsupported (decodeAt 0x27#8 0#8 0#8) ∧ IsUnsupported (decodeAt 0xFD#8 0#8 0#8) ∧
    decodeAt 0x00#8 0#8 0#8 = .nop ∧ decodeAt 0xFF#8 0#8 0#8 = .rst7 :=
  ⟨.inr rfl, .inl ⟨_, rfl⟩, rfl, rfl⟩
theorem witness_OpcodeByteDecidesLength : ([0x00#8] : List Byte).length + 1 < lengthTable 0xC3#8 ∧ ([] : List Byte).length + 1 < lengthTable 0x3E#8 ∧
    lengthTable 0xC3#8 ≤ ([0x00#8, 0x10#8] : List Byte).length + 1 ∧ lengthTable 0xDD#8 ≤ ([] : List Byte).length + 1 := by decide
theorem witness_StepRunsTheDecodedInstruction : busy.run = .running ∧
    decode [busy.read8 busy.pc, busy.read8 (busy.pc + 1), busy.read8 (busy.pc + 2)] = .ok (.call 0x1000#16, []) := ⟨rfl, rfl⟩
theorem witness_StoppedMachineNeverMoves : State.endedWell { busy with run := .halted } ∧ State.endedInFault { busy with run := .faulted } :=
  ⟨rfl, rfl⟩
theorem witness_UnsupportedOpcodeStepFaults :
    let s : State := loaded 0x0000#16 [0x27#8]
    s.run = .running ∧ s.read8 s.pc ∈ unsupportedBytes := by decide
theorem witness_UnsupportedInstructionsEnterFaulted : IsUnsupported (.unsupported 0x08#8) ∧ IsUnsupported .unsupportedDAA :=
  ⟨.inl ⟨_, rfl⟩, .inr rfl⟩
theorem witness_OnlyUnsupportedOpcodesFault : busy.run = .running := rfl
theorem witness_StepReportAgreesWithStep :
    (∃ t : State, step (loaded 0x0000#16 [0x76#8]) = .next t ∧ t.run = .halted) ∧
    (∃ t : State, step (loaded 0x0000#16 [0xDD#8]) = .next t ∧ t.run = .faulted) ∧
    (∃ t : State, step busy = .next t ∧ t.run = .running) ∧
    (∃ a16, (loaded 0x0000#16 [0xC2#8]).fetch = .ofJump .nz a16) ∧ (∃ a16, (loaded 0x0000#16 [0xFC#8]).fetch = .ofCall .m a16) ∧
    (loaded 0x0000#16 [0xF8#8]).fetch = .ofReturn .m :=
  ⟨⟨_, rfl, rfl⟩, ⟨_, rfl, rfl⟩, ⟨_, rfl, rfl⟩, ⟨_, rfl⟩, ⟨_, rfl⟩, rfl⟩
/-- DAD B: no transfer, not unsupported; writes neither SP nor memory nor Z, S, P, AC; it is not PUSH PSW. -/
theorem witness_OnlyTransfersLeaveStraightLine :
    exec .dadB busy = .next (busy.addToHl .bc) ∧ ¬ IsTransfer .dadB ∧ ¬ IsUnsupported .dadB ∧
    exec .unsupportedDAA busy = .next busy.raiseUnsupported ∧ IsUnsupported .unsupportedDAA := by
  refine ⟨rfl, ?_, ?_, rfl, .inr rfl⟩
  · rintro (⟨_, h⟩ | ⟨_, h⟩ | h | h | ⟨n, h⟩ | ⟨cc, _, h⟩ | ⟨cc, _, h⟩ | ⟨cc, h⟩)
    all_goals first | cases h | (revert h; revert n; decide) | (cases cc <;> cases h)
  · rintro (⟨_, h⟩ | h) <;> cases h
theorem witness_OnlyStackInstructionsWriteSp : exec .dadB busy = .next (busy.addToHl .bc) ∧ ¬ WritesSp .dadB := by
  refine ⟨rfl, ?_⟩
  rintro (⟨_, h⟩ | h | h | h | ⟨rp, h⟩ | ⟨rp, h⟩ | ⟨_, h⟩ | ⟨cc, _, h⟩ | h | ⟨cc, h⟩ | ⟨n, h⟩)
  all_goals first | cases h | (revert h; revert n; decide) | (cases cc <;> cases h) | (cases rp <;> cases h)
theorem witness_FlagsOutsideTheTableAreUnchanged :
    exec .inrB busy = .next (busy.increment .b) ∧ ¬ WritesCarry .inrB ∧ exec .stc busy = .next (busy.writeCarry true) ∧
    ¬ WritesZspAc .stc := by
  refine ⟨rfl, ?_, rfl, ?_⟩
  · rintro (⟨op, r, h⟩ | ⟨op, _, h⟩ | ⟨rp, h⟩ | h | h | h | h | h | h | h)
    all_goals first | cases h | (cases op <;> cases r <;> cases h) | (cases op <;> cases h) | (cases rp <;> cases h)
  · rintro (⟨op, r, h⟩ | ⟨op, _, h⟩ | ⟨r, h⟩ | ⟨r, h⟩ | h)
    all_goals first | cases h | (cases op <;> cases r <;> cases h) | (cases op <;> cases h) | (cases r <;> cases h)
theorem witness_OnlyStoringInstructionsWriteMemory : exec .dadB busy = .next (busy.addToHl .bc) ∧ ¬ Stores .dadB := by
  refine ⟨rfl, ?_⟩
  rintro (⟨r, h, _⟩ | ⟨_, h⟩ | h | h | ⟨_, h⟩ | ⟨rp, h⟩ | ⟨_, h⟩ | ⟨rp, h⟩ | ⟨_, h⟩ | ⟨cc, _, h⟩ | ⟨n, h⟩ | h)
  all_goals first | cases h | (revert h; revert n; decide) | (cases cc <;> cases h) | (cases rp <;> cases h) | (cases r <;> cases h)
theorem witness_LatchRunStateAndPortsHaveFewWriters :
    exec .nop busy = .next (busy.advance 1) ∧ Instr.nop ≠ .ei ∧ Instr.nop ≠ .di ∧ Instr.nop ≠ .hlt ∧ ¬ IsUnsupported .nop ∧
    (∀ p, Instr.nop ≠ .outPort p) ∧ (∀ p, Instr.nop ≠ .inPort p) :=
  ⟨rfl, nofun, nofun, nofun, (by rintro (⟨_, h⟩ | h) <;> cases h), nofun, nofun⟩
theorem witness_OnlyPushPswReadsAuxiliaryCarry : Instr.pushB ≠ .pushPSW ∧ exec .pushB busy = .next (busy.pushPair .bc) := ⟨nofun, rfl⟩
theorem witness_NoInstructionReadsTheLatch : exec .nop busy = .next (busy.advance 1) := rfl
theorem witness_DataTransferFamilyLaw : ¬ (Reg8.m = .m ∧ Reg8.a = .m) ∧ ¬ (Reg8.h = .m ∧ Reg8.m = .m) := by decide
theorem witness_MovAndMviMoveOneByte : ¬ (Reg8.m = .m ∧ Reg8.b = .m) ∧ Reg8.b ≠ .m := by decide
theorem witness_LxiLoadsThePair : Pair.hl ≠ .sp := by decide
/-- The operand is what its register, or the byte at HL, holds: ADD and ADC, SUB and SBB, CMP. -/
theorem witness_AdditionsSetAccumulatorAndFlags : (0x12#8 : Byte) = busy.reg8 .b ∧ (0x00#8 : Byte) = busy.reg8 .m := by decide
theorem witness_SubtractionsSetAccumulatorAndFlags : (0x9C#8 : Byte) = busy.reg8 .a ∧ (0x00#8 : Byte) = busy.reg8 .m := by decide
theorem witness_CompareSetsFlagsOnly : (0x9C#8 : Byte) = busy.reg8 .a ∧ (0x12#8 : Byte) = busy.reg8 .b := by decide
theorem witness_LogicalOperationsAreBitwise :
    (∃ (op : AluOp) (f : Bool → Bool → Bool), op = .ana ∧ f = (fun x y => x && y)) ∧
    (∃ (op : AluOp) (f : Bool → Bool → Bool), op = .xra ∧ f = (fun x y => x != y)) ∧
    (∃ (op : AluOp) (f : Bool → Bool → Bool), op = .ora ∧ f = (fun x y => x || y)) ∧ (0x12#8 : Byte) = busy.reg8 .b :=
  ⟨⟨_, _, rfl, rfl⟩, ⟨_, _, rfl, rfl⟩, ⟨_, _, rfl, rfl⟩, rfl⟩
theorem witness_InxAndDcxWriteNoFlag : Pair.bc ≠ .sp := by decide
theorem witness_PushThenPopRestores : exec (.ofPush .psw) busy = .next (busy.pushPair .psw) ∧ StackPair.de ≠ .psw := ⟨rfl, nofun⟩
/-- The first and the last condition, with the flag set: JNZ is not taken, JM is. -/
theorem witness_JumpsWritePcOnly :
    let table := [(Cond.nz, busy.fl.z, false), (.z, busy.fl.z, true), (.nc, busy.fl.c, false), (.c, busy.fl.c, true),
      (.po, busy.fl.p, false), (.pe, busy.fl.p, true), (.p, busy.fl.s, false), (.m, busy.fl.s, true)]
    (Cond.nz, true, false) ∈ table ∧ (Cond.m, true, true) ∈ table := by decide
theorem witness_CallsPushTheReturnAddress : busy.fl.cond .m = true ∧ busy.fl.cond .nz = false := by decide
theorem witness_ReturnsPopPc : busy.fl.cond .z = true ∧ busy.fl.cond .p = false := by decide
theorem witness_ReturnAfterCallResumes : exec (.call 0x1000#16) busy = .next (busy.call 3 0x1000#16) := rfl
theorem witness_StoreIsSeenByTheNextFetch :
    let s : State := { loaded 0xFFFD#16 [0x32#8, 0x00#8, 0x00#8] with pc := 0xFFFD#16, a := 0x76#8 }
    s.run = .running ∧ s.fetch = .sta (s.pc + 3) := by decide
theorem witness_ShiftDeviceRegisters : (0 : Nat) < 8 ∧ (7 : Nat) < 8 := by decide
theorem witness_ShiftDeviceThroughInOut :
    ∃ t1 t2 t3 t4 : State, exec (.outPort 4#8) { busy with a := 0x12#8 } = .next t1 ∧
      exec (.outPort 4#8) { t1 with a := 0x34#8 } = .next t2 ∧ exec (.outPort 2#8) { t2 with a := 0x05#8 } = .next t3 ∧
      exec (.inPort 3#8) t3 = .next t4 := ⟨_, _, _, _, rfl, rfl, rfl, rfl⟩
theorem witness_HostInterruptIsOptional : ¬ (State.reset.run = .running ∧ State.reset.inte = true) ∧ busy.run = .running ∧ busy.inte = true := by
  decide

end Sys2Proof.Tests
end

/-! PROOFS. The flags of an 8-bit result and the flag byte (10_state.md R41, R43, R44). -/

namespace Sys2Proof.Machine

/-! ### One bit of a byte, in numbers -/

/-- Bit `i` of a byte is the parity of its quotient by `2 ^ i`. -/
theorem byte_getLsbD_eq_decide (v : Byte) (i : Nat) : v.getLsbD i = decide (v.toNat / 2 ^ i % 2 = 1) :=
  Nat.testBit_eq_decide_div_mod_eq

theorem byte_getLsbD_of_div_mod {v : Byte} {i : Nat} {b : Bool} (h : v.toNat / 2 ^ i % 2 = b.toNat) :
    v.getLsbD i = b := by
  rw [byte_getLsbD_eq_decide, h]
  cases b <;> rfl

theorem byte_bit7_eq_decide_div (v : Byte) : v.getLsbD 7 = decide (v.toNat / 128 = 1) := by
  have hv := v.isLt
  rw [byte_bit7, decide_eq_decide]
  omega

/-! ### Parity -/

/-- An exclusive or over a list answers whether an odd number of its items satisfy `p`. -/
theorem foldl_xor_eq_decide_countP_odd {α : Type} (p : α → Bool) (l : List α) (acc : Bool) :
    l.foldl (fun odd x => odd ^^ p x) acc = (acc ^^ decide (l.countP p % 2 = 1)) := by
  induction l generalizing acc with
  | nil => simp
  | cons x xs ih =>
    rw [List.foldl_cons, ih, List.countP_cons, Bool.xor_assoc]
    cases p x
    · simp
    · have hflip : decide ((xs.countP p + 1) % 2 = 1) = !decide (xs.countP p % 2 = 1) := by
        rw [← decide_not, decide_eq_decide]
        omega
      rw [if_pos rfl, hflip, Bool.true_xor]

theorem parity8_eq_not_foldl_xor (v : Byte) :
    parity8 v = !((List.range 8).foldl (fun odd n => odd ^^ v.getLsbD n) false) := by
  simp [parity8, List.range_succ]

/-- `Parity8` is the evenness of the number of 1 bits (10_state.md R43). -/
theorem parity8_eq_decide_countP_even (v : Byte) :
    parity8 v = decide ((List.range 8).countP (fun n => v.toNat / 2 ^ n % 2 = 1) % 2 = 0) := by
  have hbits : v.getLsbD = fun n => decide (v.toNat / 2 ^ n % 2 = 1) := funext (byte_getLsbD_eq_decide v)
  rw [parity8_eq_not_foldl_xor, foldl_xor_eq_decide_countP_odd, hbits, Bool.false_xor, ← decide_not, decide_eq_decide,
    Nat.mod_two_not_eq_one]

/-! ### Z, S and P from a result -/

/-- `SetZSP` in numbers (10_state.md R44). -/
theorem setZSP_spec (fl : Flags) (v : Byte) :
    fl.setZSP v =
      { z := decide (v.toNat = 0), s := decide (v.toNat / 128 = 1), p := parity8 v, c := fl.c, ac := fl.ac } := by
  simp only [Flags.setZSP, byte_eq_zero_iff, byte_bit7_eq_decide_div]

/-- `Logic8` is `SetZSP` on flags whose C and AC are cleared. -/
theorem logic8_eq_setZSP (v : Byte) (fl : Flags) :
    logic8 v = (v, { fl with c := false, ac := false }.setZSP v) := rfl

/-- Settles O40: parity by counting bits over the exclusive or; `Logic8` by way of `SetZSP`. -/
theorem flagsOfAnEightBitResult : Obligations.FlagsOfAnEightBitResult := by
  intro v fl
  refine ⟨parity8_eq_decide_countP_even v, setZSP_spec fl v, ?_⟩
  rw [logic8_eq_setZSP v fl, setZSP_spec]

/-! ### The flag byte -/

/-- Settles O47: the sum in `PackF` fits a byte, and each bit is a quotient and remainder of it, for its terms are flags
times distinct powers of two. -/
theorem flagByteLayout : Obligations.FlagByteLayout := by
  intro fl
  have hs := fl.s.toNat_le
  have hz := fl.z.toNat_le
  have hac := fl.ac.toNat_le
  have hp := fl.p.toNat_le
  have hc := fl.c.toNat_le
  have hsum : fl.pack.toNat =
      fl.s.toNat * 128 + fl.z.toNat * 64 + fl.ac.toNat * 16 + fl.p.toNat * 4 + 2 + fl.c.toNat := by
    rw [Flags.pack, BitVec.toNat_ofNat]
    omega
  refine ⟨?_, ?_, ?_, ?_, ?_, ?_, ?_, ?_⟩ <;> apply byte_getLsbD_of_div_mod <;>
    simp only [hsum, Bool.toNat_true, Bool.toNat_false] <;> omega

end Sys2Proof.Machine

/-! PROOFS. Data transfer changes its destination and PC alone, and looks at no flag, latch, run state or SP
(40_data_transfer.md R133).

The idea: an operation that commutes with overwriting flags, `inte`, `run` and SP neither reads nor writes them. Each data
transfer but LXI SP is such an operation followed by `advance`. -/

namespace Sys2Proof.Machine

/-! ### Overwriting flags, `inte`, `run` and SP -/

/-- The state with other flags, `inte`, `run` and SP: what no data transfer instruction reads. -/
def State.withControl (s : State) (fl : Flags) (inte : Bool) (run : RunState) (sp : Word) : State :=
  { s with fl := fl, inte := inte, run := run, sp := sp }

/-- A value computed from the state that does not depend on flags, `inte`, `run` or SP. -/
def IgnoresControl {α : Type} (f : State → α) : Prop :=
  ∀ (s : State) fl inte run sp, f (s.withControl fl inte run sp) = f s

theorem ignoresControl_const {α : Type} (x : α) : IgnoresControl fun _ => x := fun _ _ _ _ _ => rfl

theorem ignoresControl_a : IgnoresControl State.a := fun _ _ _ _ _ => rfl

theorem ignoresControl_reg8 (r : Reg8) : IgnoresControl (State.reg8 · r) := by
  intro s fl inte run sp
  cases r <;> rfl

theorem ignoresControl_pair {rp : Pair} (h : rp ≠ .sp) : IgnoresControl (State.pair · rp) := by
  intro s fl inte run sp
  cases rp
  case sp => exact absurd rfl h
  all_goals rfl

theorem ignoresControl_indexPair (rp : IndexPair) : IgnoresControl (State.indexPair · rp) := by
  intro s fl inte run sp
  cases rp <;> rfl

theorem IgnoresControl.read8 {addr : State → Word} (h : IgnoresControl addr) :
    IgnoresControl fun s => s.read8 (addr s) := by
  intro s fl inte run sp
  exact congrArg s.read8 (h s fl inte run sp)

theorem ignoresControl_read16 (addr : Word) : IgnoresControl (State.read16 · addr) := fun _ _ _ _ _ => rfl

/-! ### Operations that move data only -/

/-- `g` writes the registers of `regs` and the bytes of `addrs s`, leaves PC, and commutes with overwriting flags, `inte`,
`run` and SP. -/
structure MovesOnly (g : State → State) (regs : List Reg8) (addrs : State → List Word) : Prop where
  frame : ∀ s, Frame regs (addrs s) s (g s)
  pc : ∀ s, (g s).pc = s.pc
  withControl : ∀ s fl inte run sp, g (s.withControl fl inte run sp) = (g s).withControl fl inte run sp

section
variable {g : State → State} {i : Instr} {len : Nat} {regs : List Reg8} {addrs : State → List Word}

/-- Overwriting flags, `inte`, `run` and SP with what they hold already shows that the operation keeps them. -/
theorem MovesOnly.eq_withControl (h : MovesOnly g regs addrs) (s : State) :
    g s = (g s).withControl s.fl s.inte s.run s.sp := h.withControl s s.fl s.inte s.run s.sp

theorem MovesOnly.fl (h : MovesOnly g regs addrs) (s : State) : (g s).fl = s.fl :=
  (congrArg State.fl (h.eq_withControl s)).trans rfl

theorem MovesOnly.sp (h : MovesOnly g regs addrs) (s : State) : (g s).sp = s.sp :=
  (congrArg State.sp (h.eq_withControl s)).trans rfl

theorem movesOnly_setReg8 (dst : Reg8) {v : State → Byte} (hv : IgnoresControl v) :
    MovesOnly (fun s => s.setReg8 dst (v s)) (destRegs dst) (destAddrs dst) where
  frame s := frame_setReg8 s dst (v s)
  pc s := State.setReg8_pc s dst (v s)
  withControl s fl inte run sp := by
    rw [hv]
    cases dst <;> rfl

theorem movesOnly_setA {v : State → Byte} (hv : IgnoresControl v) :
    MovesOnly (fun s => s.setA (v s)) [.a] (fun _ => []) where
  frame s := (Frame.refl _ _ s).setA _ (by decide)
  pc _ := rfl
  withControl s fl inte run sp := by rw [hv]; rfl

theorem movesOnly_setPair {rp : Pair} (hrp : rp ≠ .sp) {v : State → Word} (hv : IgnoresControl v) :
    MovesOnly (fun s => s.setPair rp (v s)) (pairRegs rp) (fun _ => []) where
  frame s := (Frame.refl _ _ s).setPair rp _ fun _ hr => hr
  pc s := State.setPair_pc s rp (v s)
  withControl s fl inte run sp := by
    rw [hv]
    cases rp
    case sp => exact absurd rfl hrp
    all_goals rfl

theorem movesOnly_write8 {addr : State → Word} {v : State → Byte} (haddr : IgnoresControl addr) (hv : IgnoresControl v) :
    MovesOnly (fun s => s.write8 (addr s) (v s)) [] (fun s => [addr s]) where
  frame s := (Frame.refl _ _ s).write8 _ _ (by simp)
  pc _ := rfl
  withControl s fl inte run sp := by rw [haddr, hv]; rfl

theorem movesOnly_write16 (addr : Word) {v : State → Word} (hv : IgnoresControl v) :
    MovesOnly (fun s => s.write16 addr (v s)) [] (fun _ => [addr, addr + 1]) where
  frame s := (Frame.refl _ _ s).write16 _ _ (by simp) (by simp)
  pc _ := rfl
  withControl s fl inte run sp := by rw [hv]; rfl

theorem movesOnly_exchange :
    MovesOnly (fun s => (s.setPair .hl (s.pair .de)).setPair .de (s.pair .hl)) [.d, .e, .h, .l] (fun _ => []) where
  frame s := ((Frame.refl _ _ s).setPair .hl _ (by decide)).setPair .de _ (by decide)
  pc _ := rfl
  withControl _ _ _ _ _ := rfl

/-! ### From the operation to the instruction -/

/-- LXI SP writes SP, so it is no instruction that moves data only. -/
theorem MovesOnly.ne_lxiSP (h : MovesOnly g regs addrs) (hexec : ∀ s, exec i s = .next ((g s).advance len)) (d16 : Word) :
    i ≠ .lxiSP d16 := by
  rintro rfl
  let s := State.reset.setSp (d16 + 1)
  have hstate : s.loadPair .sp d16 = (g s).advance len := Host.Outcome.next.inj (hexec s)
  have hsp : d16 = d16 + 1 := (congrArg State.sp hstate).trans (h.sp s)
  exact add_one_ne d16 hsp.symm

/-- An instruction that moves data only and then goes to the next one obeys R133. -/
theorem MovesOnly.transferLaw (h : MovesOnly g regs addrs) (hexec : ∀ s, exec i s = .next ((g s).advance len)) :
    TransferLaw i regs addrs len := by
  intro s
  refine ⟨(g s).advance len, hexec s, (h.frame s).advance len, h.fl s, ?_, .inr (h.sp s), fun fl inte run sp => ?_⟩
  · rw [State.advance_pc, State.nextPc, h.pc]
  · refine ⟨sp, ?_, .inr ⟨h.ne_lxiSP hexec, rfl⟩⟩
    calc exec i (s.withControl fl inte run sp)
        = .next ((g (s.withControl fl inte run sp)).advance len) := hexec _
      _ = .next (((g s).withControl fl inte run sp).advance len) := by rw [h.withControl]

end

/-- LXI SP is the one data transfer that writes SP: its SP is the immediate, whatever SP was. -/
theorem transferLaw_lxiSP (d16 : Word) : TransferLaw (.lxiSP d16) [] (fun _ => []) 3 := by
  intro s
  exact ⟨s.loadPair .sp d16, rfl, ((Frame.refl _ _ s).setSp d16).advance 3, rfl, rfl, .inl ⟨d16, rfl⟩,
    fun _ _ _ _ => ⟨d16, rfl, .inl ⟨⟨d16, rfl⟩, rfl⟩⟩⟩

theorem transferLaw_ofLxi (rp : Pair) (d16 : Word) : TransferLaw (.ofLxi rp d16) (pairRegs rp) (fun _ => []) 3 := by
  by_cases hrp : rp = .sp
  · subst hrp
    exact transferLaw_lxiSP d16
  · exact (movesOnly_setPair hrp (ignoresControl_const d16)).transferLaw (exec_ofLxi rp d16)

/-- Settles O27: each instruction's operation moves data only, for its value and its address ignore flags, `inte`, `run`
and SP; LXI SP alone is treated apart. -/
theorem dataTransferFamilyLaw : Obligations.DataTransferFamilyLaw := by
  have hne : Pair.hl ≠ .sp := nofun
  refine ⟨fun dst src h => ?mov, fun dst d8 => ?mvi, transferLaw_ofLxi, fun a16 => ?lda, fun a16 => ?sta, fun rp => ?ldax,
    fun rp => ?stax, fun a16 => ?lhld, fun a16 => ?shld, movesOnly_exchange.transferLaw exec_xchg⟩
  case mov => exact (movesOnly_setReg8 dst (ignoresControl_reg8 src)).transferLaw (exec_ofMov dst src h)
  case mvi => exact (movesOnly_setReg8 dst (ignoresControl_const d8)).transferLaw (exec_ofMvi dst d8)
  case lda => exact (movesOnly_setA (ignoresControl_const a16).read8).transferLaw (exec_lda a16)
  case sta => exact (movesOnly_write8 (ignoresControl_const a16) ignoresControl_a).transferLaw (exec_sta a16)
  case ldax => exact (movesOnly_setA (ignoresControl_indexPair rp).read8).transferLaw (exec_ofLdax rp)
  case stax => exact (movesOnly_write8 (ignoresControl_indexPair rp) ignoresControl_a).transferLaw (exec_ofStax rp)
  case lhld => exact (movesOnly_setPair hne (ignoresControl_read16 a16)).transferLaw (exec_lhld a16)
  case shld => exact (movesOnly_write16 a16 (ignoresControl_pair hne)).transferLaw (exec_shld a16)

end Sys2Proof.Machine

/-! PROOFS. UnsupportedOpcode is the one exception (60_exceptions.md R230, R231), and the shift device bit by bit
(R246 to R248).

The idea for the exception: the inversion lemma of `exec` says what every instruction makes of the run state, and the
round trip of the decoder says which bytes decode to an unsupported instruction. -/

namespace Sys2Proof

/-! ### Which bytes decode to an unsupported instruction -/

/-- Encoding what the decoder reads gives the opcode byte back in front, and what it reads is well formed. -/
theorem decodeAt_wf_and_encode_head (op b1 b2 : Byte) :
    (decodeAt op b1 b2).wf = true ∧ (encode (decodeAt op b1 b2)).head? = some op := by
  have h := shapeOf_spec op
  rw [ShapeSpec] at h
  rw [decodeAt]
  generalize shapeOf op = shape at h ⊢
  cases shape with
  | i1 i => exact ⟨h.1, congrArg List.head? h.2⟩
  | i2 f => exact ⟨(h b1).1, congrArg List.head? (h b1).2⟩
  | i3 f => exact ⟨(h (joinBytes b2 b1)).1, congrArg List.head? (h (joinBytes b2 b1)).2⟩

end Sys2Proof

namespace Sys2Proof.Machine

/-- A well-formed unsupported instruction is encoded as one of the thirteen bytes (30_encoding.md R98). -/
theorem IsUnsupported.mem_unsupportedBytes {i : Instr} {op : Byte} (h : IsUnsupported i) (hwf : i.wf = true)
    (hop : (encode i).head? = some op) : op ∈ unsupportedBytes := by
  obtain ⟨op', rfl⟩ | rfl := h
  · obtain rfl : op' = op := Option.some.inj hop
    exact List.mem_cons_of_mem _ (List.contains_iff_mem.mp hwf)
  · obtain rfl : 0x27#8 = op := Option.some.inj hop
    exact List.mem_cons_self

/-- The grid has an unsupported instruction at each of the thirteen bytes. -/
theorem isUnsupported_decodeAt_of_mem {op : Byte} (h : op ∈ unsupportedBytes) (b1 b2 : Byte) :
    IsUnsupported (decodeAt op b1 b2) := by
  simp only [unsupportedBytes, undocumentedBytes, List.mem_cons, List.not_mem_nil, or_false] at h
  rcases h with rfl | rfl | rfl | rfl | rfl | rfl | rfl | rfl | rfl | rfl | rfl | rfl | rfl
  · exact .inr rfl
  all_goals exact .inl ⟨_, rfl⟩

theorem isUnsupported_decodeAt_iff (op b1 b2 : Byte) :
    IsUnsupported (decodeAt op b1 b2) ↔ op ∈ unsupportedBytes := by
  obtain ⟨hwf, hop⟩ := decodeAt_wf_and_encode_head op b1 b2
  exact ⟨fun h => h.mem_unsupportedBytes hwf hop, fun h => isUnsupported_decodeAt_of_mem h b1 b2⟩

/-! ### What an instruction makes of the run state -/

@[simp] theorem State.call_run (s : State) (len : Nat) (target : Word) : (s.call len target).run = s.run := by
  rw [State.call, State.setPc_run, State.push16_run]

@[simp] theorem State.callIf_run (s : State) (taken : Bool) (a16 : Word) : (s.callIf taken a16).run = s.run := by
  cases taken
  · rfl
  · exact State.call_run s 3 a16

section
variable {s t : State} {i : Instr}

/-- HLT enters Halted, an unsupported instruction enters Faulted, every other instruction keeps the run state
(10_state.md R48). -/
theorem Effect.run_cases (e : Effect s i t) :
    t.run = s.run ∨ (i = .hlt ∧ t.run = .halted) ∨ (IsUnsupported i ∧ t.run = .faulted) := by
  cases e
  case hlt => exact .inr (.inl ⟨rfl, rfl⟩)
  case unsupported op => exact .inr (.inr ⟨.inl ⟨op, rfl⟩, rfl⟩)
  case unsupportedDAA => exact .inr (.inr ⟨.inr rfl, rfl⟩)
  all_goals left
  case mov dst src _ => exact State.setReg8_run s dst _
  case mvi dst d8 => exact State.setReg8_run s dst d8
  case lxi rp d16 => exact State.setPair_run s rp d16
  case inx rp => exact State.setPair_run s rp _
  case dcx rp => exact State.setPair_run s rp _
  case alu op r => cases op <;> rfl
  case aluImm op d8 => cases op <;> rfl
  case inr r => exact State.setReg8_run _ r _
  case dcr r => exact State.setReg8_run _ r _
  case pop rp => exact State.setStackPair_run _ rp _
  case jump cc a16 => rw [State.jumpIf]; split <;> rfl
  case callIf cc a16 => exact State.callIf_run s _ a16
  case returnIf cc => rw [State.returnIf]; split <;> rfl
  case push rp => rw [State.pushPair, State.advance_run, State.push16_run]
  case rst n => exact State.call_run s 1 _
  case call a16 => exact State.call_run s 3 a16
  case shld a16 => rw [State.storeHl, State.advance_run, State.write16_run]
  case xthl => rw [State.exchangeHlTop, State.advance_run, State.setPair_run, State.write16_run]
  case outPort p => rw [State.output, State.portWrite_eq]; rfl
  all_goals rfl

theorem exec_of_isUnsupported (h : IsUnsupported i) (s : State) : exec i s = .next s.raiseUnsupported := by
  obtain ⟨op, rfl⟩ | rfl := h
  · exact exec_unsupported op s
  · exact exec_unsupportedDAA s

/-- From a state that is not Faulted, the unsupported instructions and no others enter Faulted. -/
theorem run_faulted_iff_isUnsupported (hs : s.run ≠ .faulted) (h : exec i s = .next t) :
    t.run = .faulted ↔ IsUnsupported i := by
  constructor
  · intro ht
    obtain hkept | ⟨-, hhalted⟩ | ⟨hi, -⟩ := (effect_of_exec h).run_cases
    · exact absurd (hkept.symm.trans ht) hs
    · exact absurd (hhalted.symm.trans ht) (by decide)
    · exact hi
  · intro hi
    obtain rfl : s.raiseUnsupported = t := Host.Outcome.next.inj ((exec_of_isUnsupported hi s).symm.trans h)
    exact State.raiseUnsupported_run s

end

/-- Settles O17: the step is `exec` of the fetched instruction, which always answers a next state; that state is Faulted just
when the instruction is unsupported, and the byte at PC decodes to such an instruction just when it is one of the thirteen. -/
theorem onlyUnsupportedOpcodesFault : Obligations.OnlyUnsupportedOpcodesFault := by
  intro s hrun
  obtain ⟨t, hexec, -⟩ := exec_effect s.fetch s
  have hs : s.run ≠ .faulted := by rw [hrun]; decide
  refine ⟨t, (step_running s hrun).trans hexec, ?_⟩
  calc t.run = .faulted
      ↔ IsUnsupported s.fetch := run_faulted_iff_isUnsupported hs hexec
    _ ↔ s.read8 s.pc ∈ unsupportedBytes := isUnsupported_decodeAt_iff _ _ _

/-! ### The shift device, bit by bit -/

/-- The shift register after a write to port 4: the value above the old high byte (60_exceptions.md R246). -/
theorem shiftReg_eq_append (v : Byte) (r : Word) :
    (v.setWidth 16 <<< 8) ||| (r >>> 8) = v ++ r.extractLsb' 8 8 := by
  have hv := v.isLt
  have hr := r.isLt
  have happend : (v ++ r.extractLsb' 8 8).toNat = v.toNat * 256 + r.toNat / 256 := by
    rw [← hiByte_toNat]
    exact joinBytes_toNat v (hiByte r)
  apply BitVec.eq_of_toNat_eq
  rw [shiftReg_eq, happend, BitVec.toNat_ofNat, Nat.mod_eq_of_lt (by omega)]

theorem State.portWrite_four (s : State) (v : Byte) :
    s.portWrite 4#8 v = { s with shiftReg := v ++ s.shiftReg.extractLsb' 8 8 } := by
  rw [State.portWrite, if_pos rfl, shiftReg_eq_append]

theorem State.portWrite_two (s : State) (v : Byte) :
    s.portWrite 2#8 v = { s with shiftAmount := v.extractLsb' 0 3 } := by
  rw [State.portWrite, if_neg (by decide), if_pos rfl, BitVec.setWidth_eq_extractLsb' (by decide)]

/-- What port 3 reads as is the byte of the shift register that begins at bit `8 - amount` (60_exceptions.md R248). -/
theorem State.portRead_three_getLsbD (s : State) {n : Nat} (hn : n < 8) :
    (s.portRead 3#8).getLsbD n = s.shiftReg.getLsbD (8 - s.shiftAmount.toNat + n) := by
  rw [State.portRead, if_pos rfl, State.shiftResult, BitVec.getLsbD_setWidth, BitVec.getLsbD_ushiftRight, decide_eq_true hn,
    Bool.true_and]

/-- Settles O56: OUT and IN are one port operation and then PC, and each of the three port operations has its equation. -/
theorem shiftDeviceRegisters : Obligations.ShiftDeviceRegisters := by
  intro s
  refine ⟨?_, ?_, s.input 3#8, exec_inPort 3#8 s, rfl, rfl, fun n hn => ?_⟩
  · rw [exec_outPort, State.output, State.portWrite_four]
    rfl
  · rw [exec_outPort, State.output, State.portWrite_two]
    rfl
  · exact s.portRead_three_getLsbD hn

end Sys2Proof.Machine

/-! PROOFS. The decoder and the encoder are inverse to each other, and the opcode byte decides the length
(30_encoding.md R92 to R98).

The idea: `decode` has one equation for each of the three formats, and `shapeOf_spec` says of each of the 256 bytes what
the encoder makes of its entry. -/

namespace Sys2Proof

/-! ### The decoder by format -/

section
variable {op : Byte} {i : Instr}

theorem decode_of_i1 (h : shapeOf op = .i1 i) (rest : List Byte) : decode (op :: rest) = .ok (i, rest) := by
  simp only [decode, h]

theorem decode_of_i2 {f : Byte → Instr} (h : shapeOf op = .i2 f) (d8 : Byte) (rest : List Byte) :
    decode (op :: d8 :: rest) = .ok (f d8, rest) := by
  simp only [decode, h]

theorem decode_of_i3 {f : Word → Instr} (h : shapeOf op = .i3 f) (lo hi : Byte) (rest : List Byte) :
    decode (op :: lo :: hi :: rest) = .ok (f (joinBytes hi lo), rest) := by
  simp only [decode, h]

/-- Fewer bytes than the format of the opcode asks for hold no instruction. -/
theorem decode_truncated {rest : List Byte} (h : rest.length + 1 < opcodeLength op) :
    decode (op :: rest) = .error (.truncated op) := by
  rw [opcodeLength] at h
  rcases hshape : shapeOf op with i | f | f <;> rw [hshape] at h
  case i1 => exact absurd h (by simp)
  case i2 =>
    match rest, h with
    | [], _ => simp only [decode, hshape]
  case i3 =>
    match rest, h with
    | [], _ | [_], _ => simp only [decode, hshape]

/-- With enough bytes an instruction is decoded, whatever its format: it is well formed, its encoding is the bytes read,
and the bytes after those are left. -/
theorem decode_complete {rest : List Byte} (h : opcodeLength op ≤ rest.length + 1) :
    ∃ i, decode (op :: rest) = .ok (i, rest.drop (opcodeLength op - 1)) ∧ i.wf = true ∧
      encode i = op :: rest.take (opcodeLength op - 1) := by
  have hspec := shapeOf_spec op
  rw [ShapeSpec] at hspec
  rw [opcodeLength] at h ⊢
  rcases hshape : shapeOf op with i | f | f <;> rw [hshape] at h hspec
  case i1 => exact ⟨i, decode_of_i1 hshape rest, hspec⟩
  case i2 =>
    match rest, h with
    | d8 :: rest, _ => exact ⟨f d8, decode_of_i2 hshape d8 rest, hspec d8⟩
  case i3 =>
    match rest, h with
    | lo :: hi :: rest, _ =>
      refine ⟨f (joinBytes hi lo), decode_of_i3 hshape lo hi rest, ?_⟩
      simpa using hspec (joinBytes hi lo)

/-! ### Decoding what was encoded -/

theorem decode_enc1 (h : shapeOf op = .i1 i) (rest : List Byte) : decode (enc1 op ++ rest) = .ok (i, rest) :=
  decode_of_i1 h rest

theorem decode_enc2 {f : Byte → Instr} (h : shapeOf op = .i2 f) (d8 : Byte) (rest : List Byte) :
    decode (enc2 op d8 ++ rest) = .ok (f d8, rest) :=
  decode_of_i2 h d8 rest

theorem decode_enc3 {f : Word → Instr} (h : shapeOf op = .i3 f) (d16 : Word) (rest : List Byte) :
    decode (enc3 op d16 ++ rest) = .ok (f d16, rest) :=
  (decode_of_i3 h _ _ rest).trans (by rw [joinBytes_hiByte_loByte])

/-- The grid has each undocumented byte at its own place. -/
theorem shapeOf_of_mem_undocumentedBytes (h : op ∈ undocumentedBytes) : shapeOf op = .i1 (.unsupported op) := by
  simp only [undocumentedBytes, List.mem_cons, List.not_mem_nil, or_false] at h
  rcases h with rfl | rfl | rfl | rfl | rfl | rfl | rfl | rfl | rfl | rfl | rfl | rfl <;> rfl

end

/-- Settles O8, form by form: the opcode byte that the pattern of the form gives is the byte at which the grid has the
form. -/
theorem decodeOfEncodeIsTheInstruction : Obligations.DecodeOfEncodeIsTheInstruction := by
  intro i rest hwf
  cases i.view with
  | mov dst src => cases dst <;> cases src <;> exact decode_enc1 rfl rest
  | mvi dst d8 => cases dst <;> exact decode_enc2 rfl d8 rest
  | lxi rp d16 => cases rp <;> exact decode_enc3 rfl d16 rest
  | ldax rp => cases rp <;> exact decode_enc1 rfl rest
  | stax rp => cases rp <;> exact decode_enc1 rfl rest
  | alu op r => cases op <;> cases r <;> exact decode_enc1 rfl rest
  | aluImm op d8 => cases op <;> exact decode_enc2 rfl d8 rest
  | inr r => cases r <;> exact decode_enc1 rfl rest
  | dcr r => cases r <;> exact decode_enc1 rfl rest
  | dad rp => cases rp <;> exact decode_enc1 rfl rest
  | inx rp => cases rp <;> exact decode_enc1 rfl rest
  | dcx rp => cases rp <;> exact decode_enc1 rfl rest
  | push rp => cases rp <;> exact decode_enc1 rfl rest
  | pop rp => cases rp <;> exact decode_enc1 rfl rest
  | jump cc a16 => cases cc <;> exact decode_enc3 rfl a16 rest
  | callIf cc a16 => cases cc <;> exact decode_enc3 rfl a16 rest
  | returnIf cc => cases cc <;> exact decode_enc1 rfl rest
  | rst n =>
    match n with
    | 0 | 1 | 2 | 3 | 4 | 5 | 6 | 7 => exact decode_enc1 rfl rest
  | lda a16 | sta a16 | lhld a16 | shld a16 | jmp a16 | call a16 => exact decode_enc3 rfl a16 rest
  | inPort p | outPort p => exact decode_enc2 rfl p rest
  | xchg | rlc | rrc | ral | rar | cma | stc | cmc | xthl | sphl | ret | pchl | nop | hlt | di | ei | unsupportedDAA =>
    exact decode_enc1 rfl rest
  | unsupported op =>
    have hop : op ∈ undocumentedBytes := List.contains_iff_mem.mp hwf
    exact decode_enc1 (shapeOf_of_mem_undocumentedBytes hop) rest

/-- Settles O9: too few bytes are an error, and otherwise the bytes read are the encoding. -/
theorem encodeOfDecodeIsTheBytes : Obligations.EncodeOfDecodeIsTheBytes := by
  intro bytes rest i h
  cases bytes with
  | nil => cases h
  | cons op bs =>
    by_cases hlen : opcodeLength op ≤ bs.length + 1
    · obtain ⟨j, hj, hwf, henc⟩ := decode_complete hlen
      obtain ⟨rfl, rfl⟩ := Prod.mk.inj (Except.ok.inj (hj.symm.trans h))
      exact ⟨hwf, by rw [henc, List.cons_append, List.take_append_drop]⟩
    · rw [decode_truncated (Nat.lt_of_not_le hlen)] at h
      cases h

/-- Settles O12: the list of R95 is the length of the format in the grid. -/
theorem opcodeByteDecidesLength : Obligations.OpcodeByteDecidesLength := by
  intro op rest
  rw [lengthTable_eq_opcodeLength]
  refine ⟨decode_truncated, fun h => ?_⟩
  obtain ⟨i, hdecode, -, henc⟩ := decode_complete h
  have hpos : 0 < opcodeLength op := by
    rw [opcodeLength]
    cases shapeOf op <;> exact Nat.succ_pos _
  refine ⟨i, hdecode, ?_⟩
  rw [henc, List.length_cons, List.length_take]
  omega

/-- Settles O10: the words are the decoder's own examples, evaluated. -/
theorem specWordsDecodeAsStated : Obligations.SpecWordsDecodeAsStated :=
  ⟨rfl, rfl, rfl, rfl, rfl, rfl, rfl, rfl, rfl, rfl, rfl, rfl, rfl, rfl, rfl, rfl, rfl, rfl, rfl, rfl⟩

namespace Machine

/-- The thirteen bytes, in the order of 30_encoding.md R98. -/
theorem unsupportedBytes_toNat_perm :
    (unsupportedBytes.map BitVec.toNat).Perm
      [0x08, 0x10, 0x18, 0x20, 0x27, 0x28, 0x30, 0x38, 0xCB, 0xD9, 0xDD, 0xED, 0xFD] := by
  decide

/-- Settles O11: the thirteen bytes as numbers. -/
theorem unsupportedBytesAreTheThirteen : Obligations.UnsupportedBytesAreTheThirteen := by
  intro op b1 b2
  calc IsUnsupported (decodeAt op b1 b2)
      ↔ op ∈ unsupportedBytes := isUnsupported_decodeAt_iff op b1 b2
    _ ↔ op.toNat ∈ unsupportedBytes.map BitVec.toNat :=
      (List.mem_map_of_injective fun _ _ => BitVec.eq_of_toNat_eq).symm
    _ ↔ _ := unsupportedBytes_toNat_perm.mem_iff

end Machine

end Sys2Proof

/-! PROOFS. Memory: one canonical form, kept by every step, every load and every host interrupt (20_memory.md, log 4); the
accesses of the core; the loader and the launch state (70_reset_and_hazards.md R262, 10_state.md R53). -/

namespace Sys2Proof.Machine

/-! ### The canonical form is kept -/

section
variable {s t : State} {i : Instr}

@[simp] theorem State.portWrite_mem (s : State) (p v : Byte) : (s.portWrite p v).mem = s.mem := by
  rw [State.portWrite_eq]

theorem State.call_wf (len : Nat) (target : Word) (h : s.mem.wf = true) : (s.call len target).mem.wf = true :=
  State.push16_wf (s.nextPc len) h

/-- An instruction stores by `MemWrite` and `Push16` alone, and both keep the canonical form. -/
theorem Effect.mem_wf (e : Effect s i t) (h : s.mem.wf = true) : t.mem.wf = true := by
  cases e
  case mov dst src _ => exact State.setReg8_wf dst _ h
  case mvi dst d8 => exact State.setReg8_wf dst d8 h
  case inr r => exact State.setReg8_wf r _ h
  case dcr r => exact State.setReg8_wf r _ h
  case stax rp => exact State.write8_wf _ _ h
  case sta a16 => exact State.write8_wf a16 _ h
  case shld a16 => exact State.write16_wf a16 _ h
  case xthl => exact State.write16_wf s.sp _ h
  case push rp => exact State.push16_wf (s.stackPair rp) h
  case call a16 => exact State.call_wf 3 a16 h
  case rst n => exact State.call_wf 1 _ h
  case callIf cc a16 =>
    rw [State.callIf]
    split
    · exact State.call_wf 3 a16 h
    · exact h
  case jump cc a16 => rw [State.jumpIf]; split <;> exact h
  case returnIf cc => rw [State.returnIf]; split <;> exact h
  case lxi rp d16 => cases rp <;> exact h
  case inx rp => cases rp <;> exact h
  case dcx rp => cases rp <;> exact h
  case pop rp => cases rp <;> exact h
  case outPort p => rwa [State.output, State.advance_mem, State.portWrite_mem]
  all_goals exact h

/-- A step from a running core is one instruction, from a halted core the same state, and from a faulted one no state. -/
theorem step_cases (h : step s = .next t) :
    (s.run = .running ∧ exec s.fetch s = .next t) ∨ (s.run = .halted ∧ t = s) := by
  rcases hrun : s.run with _ | _ | _
  · exact .inl ⟨rfl, (step_running s hrun).symm.trans h⟩
  · exact .inr ⟨rfl, (Host.Outcome.next.inj ((step_halted s hrun).symm.trans h)).symm⟩
  · rw [step, hrun] at h
    cases h

theorem State.hostInterrupt_wf (model : Config.IrqModel) (n : Fin 8) (h : s.mem.wf = true) :
    (s.hostInterrupt model n).mem.wf = true := by
  cases model
  · exact h
  · rw [State.hostInterrupt]
    split
    · exact State.push16_wf (s := s.setInte false) s.pc h
    · exact h

end

/-- Settles O7: a step is one instruction or the same state, and loading and the interrupt store by the same accesses. -/
theorem everyStepKeepsMemoryCanonical : Obligations.EveryStepKeepsMemoryCanonical := by
  refine ⟨fun s t hwf h => ?_, fun s => State.loadBytes_wf, fun s => State.hostInterrupt_wf⟩
  obtain ⟨-, hexec⟩ | ⟨-, rfl⟩ := step_cases h
  · exact (effect_of_exec hexec).mem_wf hwf
  · exact hwf

/-- Settles O2: no entry at all is in canonical form. -/
theorem resetMemoryIsCanonical : Obligations.ResetMemoryIsCanonical := rfl

/-- Settles O1: the reset state field by field. -/
theorem resetState : Obligations.ResetState := by
  refine ⟨fun r => ?_, fun rp => ?_, rfl, rfl, rfl, rfl, rfl, rfl, fun _ => rfl, rfl, rfl⟩
  · cases r <;> rfl
  · cases rp <;> rfl

/-! ### The canonical form is one form -/

theorem Memory.wfFrom_cons {lo k : Nat} {v : Byte} {m : Memory} :
    Memory.wfFrom lo ((k, v) :: m) = true ↔ lo ≤ k ∧ k < 65536 ∧ v ≠ 0x00#8 ∧ Memory.wfFrom (k + 1) m = true := by
  simp only [Memory.wfFrom, Bool.and_eq_true, decide_eq_true_eq, bne_iff_ne, and_assoc]

theorem Memory.read_cons_self (k : Nat) (v : Byte) (m : Memory) : Memory.read ((k, v) :: m) k = v := if_pos rfl

theorem Memory.read_cons_of_ne {k a : Nat} (v : Byte) (m : Memory) (h : k ≠ a) :
    Memory.read ((k, v) :: m) a = m.read a := if_neg h

/-- Below its first address a canonical memory reads 0x00. -/
theorem Memory.read_of_lt {lo a : Nat} {m : Memory} (h : Memory.wfFrom lo m = true) (ha : a < lo) : m.read a = 0x00#8 := by
  induction m generalizing lo with
  | nil => rfl
  | cons c t ih =>
    obtain ⟨hlo, -, -, ht⟩ := Memory.wfFrom_cons.mp h
    rw [Memory.read_cons_of_ne _ _ (by omega), ih ht (by omega)]

/-- Two canonical memories that read alike list the same addresses with the same bytes. -/
theorem Memory.eq_of_read_eq {lo : Nat} {m m' : Memory} (h : Memory.wfFrom lo m = true) (h' : Memory.wfFrom lo m' = true)
    (hread : ∀ a < 65536, m.read a = m'.read a) : m = m' := by
  induction m generalizing lo m' with
  | nil =>
    cases m' with
    | nil => rfl
    | cons c' t' =>
      obtain ⟨-, hk', hv', -⟩ := Memory.wfFrom_cons.mp h'
      exact absurd ((hread _ hk').trans (Memory.read_cons_self _ _ _)).symm hv'
  | cons c t ih =>
    obtain ⟨k, v⟩ := c
    obtain ⟨hlo, hk, hv, ht⟩ := Memory.wfFrom_cons.mp h
    have hreadk : m'.read k = v := (hread k hk).symm.trans (Memory.read_cons_self k v t)
    cases m' with
    | nil => exact absurd hreadk.symm hv
    | cons c' t' =>
      obtain ⟨k', v'⟩ := c'
      obtain ⟨hlo', hk', hv', ht'⟩ := Memory.wfFrom_cons.mp h'
      have hreadk' : Memory.read ((k, v) :: t) k' = v' := (hread k' hk').trans (Memory.read_cons_self k' v' t')
      obtain hlt | rfl | hgt := Nat.lt_trichotomy k k'
      · rw [Memory.read_of_lt (Memory.wfFrom_cons.mpr ⟨le_rfl, hk', hv', ht'⟩) hlt] at hreadk
        exact absurd hreadk.symm hv
      · obtain rfl : v' = v := (Memory.read_cons_self k v' t').symm.trans hreadk
        have htail : t = t' := ih ht ht' fun a ha => by
          by_cases hka : k = a
          · rw [Memory.read_of_lt ht (by omega), Memory.read_of_lt ht' (by omega)]
          · have := hread a ha
            rwa [Memory.read_cons_of_ne _ _ hka, Memory.read_cons_of_ne _ _ hka] at this
        rw [htail]
      · rw [Memory.read_of_lt (Memory.wfFrom_cons.mpr ⟨le_rfl, hk, hv, ht⟩) hgt] at hreadk'
        exact absurd hreadk'.symm hv'

/-- Settles O6: canonical memories are determined by what they read as, and rewriting a byte leaves what is read. -/
theorem canonicalMemoryIsUnique : Obligations.CanonicalMemoryIsUnique := by
  have hunique : ∀ m m' : Memory, m.wf = true → m'.wf = true →
      (∀ addr : Word, m.read addr.toNat = m'.read addr.toNat) → m = m' := by
    intro m m' h h' hread
    refine Memory.eq_of_read_eq h h' fun a ha => ?_
    simpa [Nat.mod_eq_of_lt ha] using hread (BitVec.ofNat 16 a)
  refine ⟨hunique, fun s addr h => ?_⟩
  have hmem : (s.write8 addr (s.read8 addr)).mem = s.mem := by
    refine hunique _ _ (State.write8_wf addr _ h) h fun b => ?_
    show (s.write8 addr (s.read8 addr)).read8 b = s.read8 b
    rw [State.read8_write8]
    split
    · next hb => rw [hb]
    · rfl
  rw [State.write8_mem] at hmem
  rw [State.write8, hmem]

/-! ### The accesses of the core -/

/-- Settles O4: the law of one write, and a write is an update of memory by definition. -/
theorem writtenByteIsRead : Obligations.WrittenByteIsRead :=
  fun s a b v => ⟨State.read8_write8 s a b v, rfl⟩

theorem loByte_eq_ofNat (v : Word) : loByte v = BitVec.ofNat 8 v.toNat :=
  BitVec.eq_of_toNat_eq (by rw [loByte_toNat, BitVec.toNat_ofNat])

theorem hiByte_eq_ofNat (v : Word) : hiByte v = BitVec.ofNat 8 (v.toNat / 256) := by
  have hv := v.isLt
  apply BitVec.eq_of_toNat_eq
  rw [hiByte_toNat, BitVec.toNat_ofNat]
  omega

theorem State.read8_write16_lo (s : State) (a v : Word) : (s.write16 a v).read8 a = loByte v := by
  rw [State.read8_write16, if_neg (add_one_ne a).symm, if_pos rfl]

theorem State.read8_write16_hi (s : State) (a v : Word) : (s.write16 a v).read8 (a + 1) = hiByte v := by
  rw [State.read8_write16, if_pos rfl]

/-- Settles O5: the low byte at `a`, the high byte at `a + 1`, and the two joined are the word. -/
theorem wordAccessIsLittleEndian : Obligations.WordAccessIsLittleEndian := by
  intro s a b v
  refine ⟨?_, ?_, ?_, fun ha ha1 => ?_, ?_, rfl⟩
  · rw [State.read16, State.read8_write16_lo, State.read8_write16_hi, joinBytes_hiByte_loByte]
  · rw [State.read8_write16_lo, loByte_eq_ofNat]
  · rw [State.read8_write16_hi, hiByte_eq_ofNat]
  · rw [State.read8_write16, if_neg ha1, if_neg ha]
  · rw [State.read16, joinBytes_toNat]
    omega

/-! ### The loader and the launch state -/

theorem State.loadAll_only_mem (s : State) (image : List (Word × List Byte)) :
    s.loadAll image = { s with mem := (s.loadAll image).mem } := by
  induction image generalizing s with
  | nil => rfl
  | cons pair rest ih =>
    obtain ⟨offset, bytes⟩ := pair
    rw [State.loadAll, ih, State.loadImage_only_mem]

/-- Settles O3: loading a byte more is one write more, and loading a pair more is one load more, before PC is set. -/
theorem loaderAndLaunchState : Obligations.LoaderAndLaunchState := by
  refine ⟨fun s offset => ⟨rfl, fun bytes v => ⟨State.loadImage_only_mem s _ offset, fun addr => ?_⟩⟩,
    fun entry image offset bytes => ⟨rfl, ?_, ?_⟩⟩
  · rw [State.loadImage_append, State.read8_write8]
  · rw [State.launch, State.launch, State.loadAll_append, State.loadImage_setPc]
    rfl
  · rw [State.launch, State.loadAll_only_mem]
    rfl

end Sys2Proof.Machine

/-! PROOFS. One step of the core, and what it reports (30_encoding.md R90, R91, 60_exceptions.md R230,
70_reset_and_hazards.md R270, R271). -/

namespace Sys2Proof.Machine

/-! ### Steps -/

/-- Settles O13: three bytes always hold an instruction, and it is the fetched one. -/
theorem stepRunsTheDecodedInstruction : Obligations.StepRunsTheDecodedInstruction := by
  intro s i rest hrun hdecode
  obtain ⟨rest', hfetch⟩ := decode_three (s.read8 s.pc) (s.read8 (s.pc + 1)) (s.read8 (s.pc + 2))
  have hi : s.fetch = i := congrArg Prod.fst (Except.ok.inj (hfetch.symm.trans hdecode))
  rw [step_running s hrun, hi]

theorem step_faulted (s : State) (h : s.run = .faulted) : step s = .fault (.unsupportedOpcode s.pc (s.read8 s.pc)) := by
  rw [step, h]
  rfl

/-- Settles O14, by induction on the number of steps: each is taken in the same halted state. -/
theorem stoppedMachineNeverMoves : Obligations.StoppedMachineNeverMoves := by
  refine ⟨fun s hs k => ?_, step_faulted⟩
  induction k with
  | zero => rfl
  | succ k ih => rw [run_succ_of_next k (step_halted s hs), ih]

/-- Settles O16: both unsupported forms take the exception, which writes the run state alone. -/
theorem unsupportedInstructionsEnterFaulted : Obligations.UnsupportedInstructionsEnterFaulted :=
  fun _ s h => exec_of_isUnsupported h s

/-! ### The report beside the step -/

section
variable {s : State} (cycles : Config.CycleTable)

theorem stepReport_of_isUnsupported (hrun : s.run = .running) (h : IsUnsupported s.fetch) :
    s.stepReport cycles = .unsupportedOpcode s.pc (s.read8 s.pc) := by
  simp only [State.stepReport, hrun]
  obtain ⟨op, hop⟩ | hdaa := h
  · rw [hop]
  · rw [hdaa]

theorem stepReport_of_hlt (hrun : s.run = .running) (h : s.fetch = .hlt) : s.stepReport cycles = .halted := by
  simp only [State.stepReport, hrun, h]

theorem stepReport_of_ne (hrun : s.run = .running) (hhlt : s.fetch ≠ .hlt) (hsupported : ¬ IsUnsupported s.fetch) :
    s.stepReport cycles = .cycles (cycles (s.read8 s.pc) (takenAt (s.read8 s.pc) s.fl)) := by
  simp only [State.stepReport, hrun]
  split
  · next op hop => exact absurd (.inl ⟨op, hop⟩) hsupported
  · next hdaa => exact absurd (.inr hdaa) hsupported
  · next h => exact absurd h hhlt
  · rfl

end

/-- Settles O15: the byte at PC decodes to an unsupported instruction. -/
theorem unsupportedOpcodeStepFaults : Obligations.UnsupportedOpcodeStepFaults := by
  intro s cycles hrun hbyte
  have hfetch : IsUnsupported s.fetch := isUnsupported_decodeAt_of_mem hbyte _ _
  refine ⟨?_, stepReport_of_isUnsupported cycles hrun hfetch, step_faulted (s.setRun .faulted) rfl⟩
  rw [step_running s hrun, exec_of_isUnsupported hfetch]
  rfl

/-- The opcode byte of the fetched instruction is the byte its encoding begins with. -/
theorem encode_fetch_head (s : State) : (encode s.fetch).head? = some (s.read8 s.pc) :=
  (decodeAt_wf_and_encode_head _ _ _).2

theorem encode_ofJump (cc : Cond) (a16 : Word) : encode (.ofJump cc a16) = enc3 (condByte 0b010#3 cc) a16 := by
  cases cc <;> rfl

theorem encode_ofCall (cc : Cond) (a16 : Word) : encode (.ofCall cc a16) = enc3 (condByte 0b100#3 cc) a16 := by
  cases cc <;> rfl

theorem encode_ofReturn (cc : Cond) : encode (.ofReturn cc) = enc1 (condByte 0b000#3 cc) := by
  cases cc <;> rfl

/-- Of the opcode byte of a conditional jump, call or return, `taken` is its condition. -/
theorem takenAt_condByte {low : BitVec 3} (h : low ∈ [0b000#3, 0b010#3, 0b100#3]) (cc : Cond) (fl : Flags) :
    takenAt (condByte low cc) fl = fl.cond cc := by
  simp only [List.mem_cons, List.not_mem_nil, or_false] at h
  rcases h with rfl | rfl | rfl <;> cases cc <;> rfl

/-- A fetched conditional instruction stands at the byte `11ccc` and its three low bits. -/
theorem takenAt_of_fetch {s : State} {low : BitVec 3} {cc : Cond} (hlow : low ∈ [0b000#3, 0b010#3, 0b100#3])
    (h : (encode s.fetch).head? = some (condByte low cc)) : takenAt (s.read8 s.pc) s.fl = s.fl.cond cc := by
  have hop : s.read8 s.pc = condByte low cc := Option.some.inj ((encode_fetch_head s).symm.trans h)
  rw [hop, takenAt_condByte hlow]

/-- Settles O18: HLT and the unsupported instructions are the ones that leave Running, and they have reports of their
own. -/
theorem stepReportAgreesWithStep : Obligations.StepReportAgreesWithStep := by
  intro s t cycles hrun hstep
  have hexec : exec s.fetch s = .next t := (step_running s hrun).symm.trans hstep
  have hrunning : t.run = s.run → t.run = .running := (·.trans hrun)
  refine ⟨fun ht => ?halted, fun ht => ?faulted, fun ht => ?running, fun cc hcc => ?taken⟩
  case halted =>
    obtain hkept | ⟨hhlt, -⟩ | ⟨-, hfaulted⟩ := (effect_of_exec hexec).run_cases
    · exact absurd (ht.symm.trans (hrunning hkept)) (by decide)
    · exact stepReport_of_hlt cycles hrun hhlt
    · exact absurd (ht.symm.trans hfaulted) (by decide)
  case faulted =>
    have hne : s.run ≠ .faulted := by rw [hrun]; decide
    exact stepReport_of_isUnsupported cycles hrun ((run_faulted_iff_isUnsupported hne hexec).mp ht)
  case running =>
    refine stepReport_of_ne cycles hrun (fun hhlt => ?_) fun hunsupported => ?_
    · rw [hhlt, exec_hlt] at hexec
      obtain rfl := Host.Outcome.next.inj hexec
      cases ht
    · rw [exec_of_isUnsupported hunsupported] at hexec
      obtain rfl := Host.Outcome.next.inj hexec
      cases ht
  case taken =>
    obtain ⟨a16, hfetch⟩ | ⟨a16, hfetch⟩ | hfetch := hcc
    · exact takenAt_of_fetch (low := 0b010#3) (by decide) (by rw [hfetch, encode_ofJump]; rfl)
    · exact takenAt_of_fetch (low := 0b100#3) (by decide) (by rw [hfetch, encode_ofCall]; rfl)
    · exact takenAt_of_fetch (low := 0b000#3) (by decide) (by rw [hfetch, encode_ofReturn]; rfl)

/-! ### The default cycle table -/

/-- Settles O19: a condition that fails costs the same or 6 less; the rows are read off the table. -/
theorem defaultCyclesMeetTheConstraint : Obligations.DefaultCyclesMeetTheConstraint := by
  refine ⟨fun op => ?_, fun cc => ?_⟩
  · simp only [defaultCycles, Bool.not_true, Bool.false_and, Bool.false_eq_true, if_false]
    split
    · exact Nat.sub_le _ _
    · exact le_rfl
  · cases cc <;> decide

end Sys2Proof.Machine

/-! PROOFS. What each instruction's operation leaves alone: its `Frame`, the frames of its shared operations one after the
other. -/

namespace Sys2Proof.Machine

/-! ### Shared operations, field by field -/

@[simp] theorem State.portWrite_pc (s : State) (p v : Byte) : (s.portWrite p v).pc = s.pc := by rw [State.portWrite_eq]
@[simp] theorem State.portWrite_sp (s : State) (p v : Byte) : (s.portWrite p v).sp = s.sp := by rw [State.portWrite_eq]
@[simp] theorem State.portWrite_fl (s : State) (p v : Byte) : (s.portWrite p v).fl = s.fl := by rw [State.portWrite_eq]
@[simp] theorem State.portWrite_inte (s : State) (p v : Byte) : (s.portWrite p v).inte = s.inte := by
  rw [State.portWrite_eq]
@[simp] theorem State.portWrite_run (s : State) (p v : Byte) : (s.portWrite p v).run = s.run := by
  rw [State.portWrite_eq]
@[simp] theorem State.portWrite_portReads (s : State) (p v : Byte) : (s.portWrite p v).portReads = s.portReads := by
  rw [State.portWrite_eq]

theorem State.setPair_sp_of_ne {rp : Pair} (h : rp ≠ .sp) (s : State) (v : Word) : (s.setPair rp v).sp = s.sp := by
  cases rp
  case sp => exact absurd rfl h
  all_goals rfl

@[simp] theorem State.jumpIf_fl (s : State) (taken : Bool) (a16 : Word) : (s.jumpIf taken a16).fl = s.fl := by
  cases taken <;> rfl
@[simp] theorem State.jumpIf_sp (s : State) (taken : Bool) (a16 : Word) : (s.jumpIf taken a16).sp = s.sp := by
  cases taken <;> rfl
@[simp] theorem State.call_fl (s : State) (len : Nat) (target : Word) : (s.call len target).fl = s.fl := by
  rw [State.call, State.setPc_fl, State.push16_fl]
@[simp] theorem State.callIf_fl (s : State) (taken : Bool) (a16 : Word) : (s.callIf taken a16).fl = s.fl := by
  cases taken
  · rfl
  · exact State.call_fl s 3 a16
@[simp] theorem State.pushPair_fl (s : State) (rp : StackPair) : (s.pushPair rp).fl = s.fl := by
  rw [State.pushPair, State.advance_fl, State.push16_fl]
@[simp] theorem State.storeHl_fl (s : State) (a16 : Word) : (s.storeHl a16).fl = s.fl := by
  rw [State.storeHl, State.advance_fl, State.write16_fl]
@[simp] theorem State.storeHl_sp (s : State) (a16 : Word) : (s.storeHl a16).sp = s.sp := by
  rw [State.storeHl, State.advance_sp, State.write16_sp]
@[simp] theorem State.exchangeHlTop_fl (s : State) : s.exchangeHlTop.fl = s.fl := by
  rw [State.exchangeHlTop, State.advance_fl, State.setPair_fl, State.write16_fl]
@[simp] theorem State.exchangeHlTop_sp (s : State) : s.exchangeHlTop.sp = s.sp := by
  rw [State.exchangeHlTop, State.advance_sp, State.setPair_sp_of_ne (by decide), State.write16_sp]
@[simp] theorem State.returnIf_fl (s : State) (taken : Bool) : (s.returnIf taken).fl = s.fl := by
  cases taken <;> rfl

/-! ### Frames -/

section
variable {regs regs' : List Reg8} {addrs addrs' : List Word} {s t u : State}

/-- Frames compose. -/
theorem Frame.trans (h : Frame regs addrs s t) (h' : Frame regs addrs t u) : Frame regs addrs s u where
  regs r hr hn := (h'.regs r hr hn).trans (h.regs r hr hn)
  mem addr hn := (h'.mem addr hn).trans (h.mem addr hn)
  inte := h'.inte.trans h.inte
  run := h'.run.trans h.run
  shiftReg := h'.shiftReg.trans h.shiftReg
  shiftAmount := h'.shiftAmount.trans h.shiftAmount
  portReads := h'.portReads.trans h.portReads

/-- A frame may list more registers and addresses. -/
theorem Frame.mono (h : Frame regs addrs s t) (hregs : regs ⊆ regs') (haddrs : addrs ⊆ addrs') :
    Frame regs' addrs' s t :=
  { h with
    regs := fun r hr hn => h.regs r hr fun hm => hn (hregs hm)
    mem := fun addr hn => h.mem addr fun hm => hn (haddrs hm) }

end

section
variable (s : State)

theorem frame_movReg (dst src : Reg8) : Frame (destRegs dst) (destAddrs dst s) s (s.movReg dst src) :=
  (frame_setReg8 s dst _).advance 1

theorem frame_moveImm (dst : Reg8) (d8 : Byte) : Frame (destRegs dst) (destAddrs dst s) s (s.moveImm dst d8) :=
  (frame_setReg8 s dst d8).advance 2

theorem frame_setPair (rp : Pair) (v : Word) : Frame (pairRegs rp) [] s (s.setPair rp v) :=
  (Frame.refl _ _ s).setPair rp v fun _ => id

theorem frame_loadPair (rp : Pair) (d16 : Word) : Frame (pairRegs rp) [] s (s.loadPair rp d16) :=
  (frame_setPair s rp d16).advance 3

theorem frame_loadA (addr : Word) (len : Nat) : Frame [.a] [] s (s.loadA addr len) :=
  ((Frame.refl _ _ s).setA _ (by decide)).advance len

theorem frame_storeA (addr : Word) (len : Nat) : Frame [] [addr] s (s.storeA addr len) :=
  ((Frame.refl _ _ s).write8 addr _ (by simp)).advance len

theorem frame_loadHl (a16 : Word) : Frame [.h, .l] [] s (s.loadHl a16) :=
  (frame_setPair s .hl _).advance 3

theorem frame_storeHl (a16 : Word) : Frame [] [a16, a16 + 1] s (s.storeHl a16) :=
  ((Frame.refl _ _ s).write16 a16 _ (by simp) (by simp)).advance 3

theorem frame_exchangeHlDe : Frame [.d, .e, .h, .l] [] s s.exchangeHlDe :=
  (movesOnly_exchange.frame s).advance 1

theorem frame_alu (op : AluOp) (v : Byte) : Frame [.a] [] s (s.alu op v) :=
  ((Frame.refl _ _ s).setA _ (by decide)).setFl _

theorem frame_increment (r : Reg8) : Frame (destRegs r) (destAddrs r s) s (s.increment r) :=
  ((frame_setReg8 s r _).setFl _).advance 1

theorem frame_decrement (r : Reg8) : Frame (destRegs r) (destAddrs r s) s (s.decrement r) :=
  ((frame_setReg8 s r _).setFl _).advance 1

theorem frame_addToHl (rp : Pair) : Frame [.h, .l] [] s (s.addToHl rp) :=
  ((frame_setPair s .hl _).setFl _).advance 1

theorem frame_incrementPair (rp : Pair) : Frame (pairRegs rp) [] s (s.incrementPair rp) :=
  (frame_setPair s rp _).advance 1

theorem frame_decrementPair (rp : Pair) : Frame (pairRegs rp) [] s (s.decrementPair rp) :=
  (frame_setPair s rp _).advance 1

theorem frame_rotate (r : Byte × Flags) : Frame [.a] [] s (s.rotate r) :=
  (((Frame.refl _ _ s).setA _ (by decide)).setFl _).advance 1

theorem frame_complement : Frame [.a] [] s ((s.setA (~~~s.a)).advance 1) :=
  ((Frame.refl _ _ s).setA _ (by decide)).advance 1

theorem frame_sphl : Frame [] [] s ((s.setSp s.hl).advance 1) := ((Frame.refl _ _ s).setSp _).advance 1

theorem frame_writeCarry (v : Bool) : Frame [] [] s (s.writeCarry v) :=
  ((Frame.refl _ _ s).setFl _).advance 1

theorem frame_push16 (v : Word) : Frame [] [s.sp - 1, s.sp - 2] s (s.push16 v) :=
  (Frame.refl _ _ s).push16 v (by simp) (by simp)

theorem frame_pushPair (rp : StackPair) : Frame [] [s.sp - 1, s.sp - 2] s (s.pushPair rp) :=
  (frame_push16 s _).advance 1

theorem frame_popPair (rp : StackPair) : Frame (stackRegs rp) [] s (s.popPair rp) :=
  (((Frame.refl _ _ s).setSp _).setStackPair rp _ fun _ => id).advance 1

theorem frame_exchangeHlTop : Frame [.h, .l] [s.sp, s.sp + 1] s s.exchangeHlTop :=
  (((Frame.refl _ _ s).write16 s.sp _ (by simp) (by simp)).setPair .hl _ fun _ => id).advance 1

theorem frame_call (len : Nat) (target : Word) : Frame [] [s.sp - 1, s.sp - 2] s (s.call len target) :=
  (frame_push16 s _).setPc target

theorem frame_callIf (taken : Bool) (a16 : Word) : Frame [] [s.sp - 1, s.sp - 2] s (s.callIf taken a16) := by
  cases taken
  · exact (Frame.refl _ _ s).advance 3
  · exact frame_call s 3 a16

theorem frame_jumpIf (taken : Bool) (a16 : Word) : Frame [] [] s (s.jumpIf taken a16) := by
  cases taken
  · exact (Frame.refl _ _ s).advance 3
  · exact (Frame.refl _ _ s).setPc a16

theorem frame_return16 : Frame [] [] s s.return16 := ((Frame.refl _ _ s).setSp _).setPc _

theorem frame_returnIf (taken : Bool) : Frame [] [] s (s.returnIf taken) := by
  cases taken
  · exact (Frame.refl _ _ s).advance 1
  · exact frame_return16 s

end

end Sys2Proof.Machine

/-! PROOFS. Whole-machine rules: which instructions can write PC, SP, a flag, memory, the latch, the run state and the ports
(10_state.md R37 to R50, 20_memory.md R70).

The idea: say once of every form of instruction what it makes of one component of the state, by cases on `Effect`; each
rule is then read off. -/

namespace Sys2Proof.Machine

section
variable {s t : State} {i : Instr}

/-! ### PC -/

theorem encode_length_ofMov (dst src : Reg8) : (encode (.ofMov dst src)).length = 1 := by
  cases dst <;> cases src <;> rfl

theorem encode_length_ofAlu (op : AluOp) (r : Reg8) : (encode (.ofAlu op r)).length = 1 := by
  cases op <;> cases r <;> rfl

/-- An instruction is a transfer, or raises the fault and keeps PC, or goes to the following instruction. -/
theorem Effect.pc_cases (e : Effect s i t) :
    IsTransfer i ∨ (IsUnsupported i ∧ t.pc = s.pc) ∨ t.pc = s.nextPc (encode i).length := by
  cases e
  case jmp | call | ret | pchl | rst | jump | callIf | returnIf => exact .inl (by simp [IsTransfer])
  case unsupported | unsupportedDAA => exact .inr (.inl ⟨by simp [IsUnsupported], rfl⟩)
  all_goals refine .inr (.inr ?_)
  case mov dst src _ =>
    rw [State.movReg, State.advance_pc, encode_length_ofMov, State.nextPc, State.setReg8_pc]
    rfl
  case alu op r =>
    rw [encode_length_ofAlu]
    rfl
  case outPort p =>
    rw [State.output, State.advance_pc, State.nextPc, State.portWrite_pc]
    rfl
  case mvi dst _ => cases dst <;> rfl
  case inr r | dcr r => cases r <;> rfl
  case aluImm op _ => cases op <;> rfl
  case lxi rp _ | dad rp | inx rp | dcx rp | ldax rp | stax rp | push rp | pop rp => cases rp <;> rfl
  all_goals rfl

/-! ### SP -/

/-- An instruction is one of those that write SP, or keeps it. -/
theorem Effect.sp_cases (e : Effect s i t) : WritesSp i ∨ t.sp = s.sp := by
  cases e
  case sphl | push | pop | call | callIf | ret | returnIf | rst => exact .inl (by simp [WritesSp])
  case lxi rp _ | inx rp | dcx rp =>
    cases rp
    case sp => exact .inl (by simp [WritesSp, Instr.ofLxi, Instr.ofInx, Instr.ofDcx])
    all_goals exact .inr rfl
  all_goals right
  case mov dst src _ => exact State.setReg8_sp s dst _
  case mvi dst d8 => exact State.setReg8_sp s dst d8
  case inr r | dcr r => exact State.setReg8_sp s r _
  case jump cc a16 => exact State.jumpIf_sp s _ a16
  case shld a16 => exact State.storeHl_sp s a16
  case xthl => exact State.exchangeHlTop_sp s
  case outPort p => exact State.portWrite_sp s p s.a
  all_goals rfl

/-! ### Flags -/

/-- An instruction keeps all flags, or may write C alone, or Z, S, P and AC alone, or all five. -/
theorem Effect.fl_cases (e : Effect s i t) :
    t.fl = s.fl ∨ (WritesCarry i ∧ ∃ c, t.fl = { s.fl with c := c }) ∨ (WritesZspAc i ∧ t.fl.c = s.fl.c) ∨
      (WritesCarry i ∧ WritesZspAc i) := by
  cases e
  case alu | aluImm => exact .inr (.inr (.inr ⟨by simp [WritesCarry], by simp [WritesZspAc]⟩))
  case pop rp =>
    cases rp
    case psw => exact .inr (.inr (.inr ⟨by simp [WritesCarry, Instr.ofPop], by simp [WritesZspAc, Instr.ofPop]⟩))
    all_goals exact .inl rfl
  case inr | dcr => exact .inr (.inr (.inl ⟨by simp [WritesZspAc], rfl⟩))
  case dad | rlc | rrc | ral | rar | stc | cmc => exact .inr (.inl ⟨by simp [WritesCarry], _, rfl⟩)
  all_goals left
  case mov dst src _ => exact State.setReg8_fl s dst _
  case mvi dst d8 => exact State.setReg8_fl s dst d8
  case lxi rp _ | inx rp | dcx rp => exact State.setPair_fl s rp _
  case jump cc a16 => exact State.jumpIf_fl s _ a16
  case call a16 => exact State.call_fl s 3 a16
  case rst n => exact State.call_fl s 1 _
  case callIf cc a16 => exact State.callIf_fl s _ a16
  case shld a16 => exact State.storeHl_fl s a16
  case push rp => exact State.pushPair_fl s rp
  case xthl => exact State.exchangeHlTop_fl s
  case returnIf cc => exact State.returnIf_fl s _
  case outPort p => exact State.portWrite_fl s p s.a
  all_goals rfl

/-! ### Memory, the latch, the run state and the ports -/

/-- What an instruction writes beyond registers, flags, SP, PC and memory: most write nothing there. -/
inductive ControlWrite (s : State) : Instr → State → Prop where
  | nothing (i : Instr) : ControlWrite s i s
  | ei : ControlWrite s .ei (s.setInte true)
  | di : ControlWrite s .di (s.setInte false)
  | hlt : ControlWrite s .hlt (s.setRun .halted)
  | unsupported {i : Instr} (h : IsUnsupported i) : ControlWrite s i s.raiseUnsupported
  | inPort (p : Byte) : ControlWrite s (.inPort p) s.countPortRead
  | outPort (p v : Byte) : ControlWrite s (.outPort p) (s.portWrite p v)

theorem destAddrs_eq_nil_or_eq_m (r : Reg8) (s : State) : destAddrs r s = [] ∨ r = .m := by
  by_cases h : r = .m
  · exact .inr h
  · exact .inl (if_neg h)

/-- An instruction makes its control write, and beyond it has a frame without addresses unless it stores. -/
theorem Effect.frame_of_controlWrite (e : Effect s i t) :
    ∃ u regs addrs, ControlWrite s i u ∧ Frame regs addrs u t ∧ (addrs = [] ∨ Stores i) := by
  cases e
  case ei => exact ⟨_, [], [], .ei, (Frame.refl _ _ _).advance 1, .inl rfl⟩
  case di => exact ⟨_, [], [], .di, (Frame.refl _ _ _).advance 1, .inl rfl⟩
  case hlt => exact ⟨_, [], [], .hlt, (Frame.refl _ _ _).advance 1, .inl rfl⟩
  case unsupported op => exact ⟨_, [], [], .unsupported (.inl ⟨op, rfl⟩), Frame.refl _ _ _, .inl rfl⟩
  case unsupportedDAA => exact ⟨_, [], [], .unsupported (.inr rfl), Frame.refl _ _ _, .inl rfl⟩
  case inPort p =>
    exact ⟨_, [.a], [], .inPort p, ((Frame.refl _ _ _).setA _ (by decide)).advance 2, .inl rfl⟩
  case outPort p => exact ⟨_, [], [], .outPort p s.a, (Frame.refl _ _ _).advance 2, .inl rfl⟩
  all_goals refine ⟨s, ?_⟩
  case mov dst src h =>
    refine ⟨_, _, .nothing _, frame_movReg s dst src, (destAddrs_eq_nil_or_eq_m dst s).imp_right ?_⟩
    rintro rfl
    exact .inl ⟨src, rfl, fun hsrc => h ⟨rfl, hsrc⟩⟩
  case mvi dst d8 =>
    refine ⟨_, _, .nothing _, frame_moveImm s dst d8, (destAddrs_eq_nil_or_eq_m dst s).imp_right ?_⟩
    rintro rfl
    exact .inr (.inl ⟨d8, rfl⟩)
  case inr r =>
    refine ⟨_, _, .nothing _, frame_increment s r, (destAddrs_eq_nil_or_eq_m r s).imp_right ?_⟩
    rintro rfl
    exact .inr (.inr (.inl rfl))
  case dcr r =>
    refine ⟨_, _, .nothing _, frame_decrement s r, (destAddrs_eq_nil_or_eq_m r s).imp_right ?_⟩
    rintro rfl
    exact .inr (.inr (.inr (.inl rfl)))
  case sta a16 => exact ⟨_, _, .nothing _, frame_storeA s a16 3, .inr (by simp [Stores])⟩
  case stax rp => exact ⟨_, _, .nothing _, frame_storeA s _ 1, .inr (by simp [Stores])⟩
  case shld a16 => exact ⟨_, _, .nothing _, frame_storeHl s a16, .inr (by simp [Stores])⟩
  case push rp => exact ⟨_, _, .nothing _, frame_pushPair s rp, .inr (by simp [Stores])⟩
  case call a16 => exact ⟨_, _, .nothing _, frame_call s 3 a16, .inr (by simp [Stores])⟩
  case rst n => exact ⟨_, _, .nothing _, frame_call s 1 _, .inr (by simp [Stores])⟩
  case callIf cc a16 => exact ⟨_, _, .nothing _, frame_callIf s _ a16, .inr (by simp [Stores])⟩
  case xthl => exact ⟨_, _, .nothing _, frame_exchangeHlTop s, .inr (by simp [Stores])⟩
  case lxi rp d16 => exact ⟨_, _, .nothing _, frame_loadPair s rp d16, .inl rfl⟩
  case ldax rp => exact ⟨_, _, .nothing _, frame_loadA s _ 1, .inl rfl⟩
  case lda a16 => exact ⟨_, _, .nothing _, frame_loadA s a16 3, .inl rfl⟩
  case lhld a16 => exact ⟨_, _, .nothing _, frame_loadHl s a16, .inl rfl⟩
  case xchg => exact ⟨_, _, .nothing _, frame_exchangeHlDe s, .inl rfl⟩
  case alu op r => exact ⟨_, _, .nothing _, (frame_alu s op _).advance 1, .inl rfl⟩
  case aluImm op d8 => exact ⟨_, _, .nothing _, (frame_alu s op d8).advance 2, .inl rfl⟩
  case dad rp => exact ⟨_, _, .nothing _, frame_addToHl s rp, .inl rfl⟩
  case inx rp => exact ⟨_, _, .nothing _, frame_incrementPair s rp, .inl rfl⟩
  case dcx rp => exact ⟨_, _, .nothing _, frame_decrementPair s rp, .inl rfl⟩
  case rlc | rrc | ral | rar => exact ⟨_, _, .nothing _, frame_rotate s _, .inl rfl⟩
  case stc | cmc => exact ⟨_, _, .nothing _, frame_writeCarry s _, .inl rfl⟩
  case pop rp => exact ⟨_, _, .nothing _, frame_popPair s rp, .inl rfl⟩
  case jump cc a16 => exact ⟨_, _, .nothing _, frame_jumpIf s _ a16, .inl rfl⟩
  case ret => exact ⟨_, _, .nothing _, frame_return16 s, .inl rfl⟩
  case returnIf cc => exact ⟨_, _, .nothing _, frame_returnIf s _, .inl rfl⟩
  case cma => exact ⟨_, _, .nothing _, frame_complement s, .inl rfl⟩
  case sphl => exact ⟨_, _, .nothing _, frame_sphl s, .inl rfl⟩
  case jmp | pchl => exact ⟨[], _, .nothing _, (Frame.refl _ _ s).setPc _, .inl rfl⟩
  case nop => exact ⟨[], _, .nothing _, (Frame.refl _ _ s).advance 1, .inl rfl⟩

theorem ControlWrite.read8 {u : State} (h : ControlWrite s i u) (addr : Word) : u.read8 addr = s.read8 addr := by
  cases h
  case outPort p v => rw [State.read8, State.portWrite_mem, State.read8]
  all_goals rfl

theorem ControlWrite.inte_cases {u : State} (h : ControlWrite s i u) : i = .ei ∨ i = .di ∨ u.inte = s.inte := by
  cases h <;> simp

theorem ControlWrite.run_cases {u : State} (h : ControlWrite s i u) : i = .hlt ∨ IsUnsupported i ∨ u.run = s.run := by
  cases h
  case unsupported hi => exact .inr (.inl hi)
  all_goals simp

theorem ControlWrite.shift_cases {u : State} (h : ControlWrite s i u) :
    (∃ p, i = .outPort p) ∨ (u.shiftReg = s.shiftReg ∧ u.shiftAmount = s.shiftAmount) := by
  cases h
  case outPort p v => exact .inl ⟨p, rfl⟩
  all_goals exact .inr ⟨rfl, rfl⟩

theorem ControlWrite.portReads_cases {u : State} (h : ControlWrite s i u) :
    (∃ p, i = .inPort p) ∨ u.portReads = s.portReads := by
  cases h
  case inPort p => exact .inl ⟨p, rfl⟩
  all_goals simp

end

/-! ### The rules -/

/-- Settles O20: read off what an instruction makes of PC; the unsupported ones change the run state alone. -/
theorem onlyTransfersLeaveStraightLine : Obligations.OnlyTransfersLeaveStraightLine := by
  intro i s t h
  refine ⟨fun htransfer hsupported => ?_, fun hi => ?_⟩
  · obtain hi | ⟨hi, -⟩ | hpc := (effect_of_exec h).pc_cases
    · exact absurd hi htransfer
    · exact absurd hi hsupported
    · exact hpc
  · obtain rfl := Host.Outcome.next.inj ((exec_of_isUnsupported hi s).symm.trans h)
    rfl

/-- Settles O21: read off what an instruction makes of SP. -/
theorem onlyStackInstructionsWriteSp : Obligations.OnlyStackInstructionsWriteSp :=
  fun _ _ _ hi h => (effect_of_exec h).sp_cases.resolve_left hi

/-- Settles O22: in each of the four cases of the flags, what is not kept has a writer. -/
theorem flagsOutsideTheTableAreUnchanged : Obligations.FlagsOutsideTheTableAreUnchanged := by
  intro i s t h
  obtain hfl | ⟨hcarry, c, hfl⟩ | ⟨hzsp, hc⟩ | ⟨hcarry, hzsp⟩ := (effect_of_exec h).fl_cases
  · rw [hfl]
    exact ⟨fun _ => rfl, fun _ => ⟨rfl, rfl, rfl, rfl⟩⟩
  · rw [hfl]
    exact ⟨fun hi => absurd hcarry hi, fun _ => ⟨rfl, rfl, rfl, rfl⟩⟩
  · exact ⟨fun _ => hc, fun hi => absurd hzsp hi⟩
  · exact ⟨fun hi => absurd hcarry hi, fun hi => absurd hzsp hi⟩

/-- Settles O23: no address is in the frame of an instruction that stores nothing. -/
theorem onlyStoringInstructionsWriteMemory : Obligations.OnlyStoringInstructionsWriteMemory := by
  intro i s t hi h addr
  obtain ⟨u, regs, addrs, hwrite, hframe, haddrs⟩ := (effect_of_exec h).frame_of_controlWrite
  obtain rfl := haddrs.resolve_right hi
  exact (hframe.mem addr List.not_mem_nil).trans (hwrite.read8 addr)

/-- Settles O24: a frame holds the latch, the run state and the ports, and the control write says who changes them. -/
theorem latchRunStateAndPortsHaveFewWriters : Obligations.LatchRunStateAndPortsHaveFewWriters := by
  intro i s t h
  obtain ⟨u, regs, addrs, hwrite, hframe, -⟩ := (effect_of_exec h).frame_of_controlWrite
  refine ⟨fun hei hdi => ?_, fun hhlt hsupported => ?_, fun hout => ?_, fun hin => ?_⟩
  · exact hframe.inte.trans ((hwrite.inte_cases.resolve_left hei).resolve_left hdi)
  · exact hframe.run.trans ((hwrite.run_cases.resolve_left hhlt).resolve_left hsupported)
  · obtain ⟨hreg, hamount⟩ := hwrite.shift_cases.resolve_left fun ⟨p, hp⟩ => hout p hp
    exact ⟨hframe.shiftReg.trans hreg, hframe.shiftAmount.trans hamount⟩
  · exact hframe.portReads.trans (hwrite.portReads_cases.resolve_left fun ⟨p, hp⟩ => hin p hp)

end Sys2Proof.Machine

/-! PROOFS. No instruction reads the latch, and PUSH PSW alone reads AC (10_state.md R46, R54).

The idea: an instruction reads neither bit when its operation commutes with overwriting both, where each bit is afterwards
the one written over it or one that the operation sets itself. -/

namespace Sys2Proof.Machine

/-- The state with another latch and another AC. -/
def State.withHidden (s : State) (v ac : Bool) : State := { s with inte := v, fl := { s.fl with ac := ac } }

/-- The operation of `i` commutes with overwriting the latch and AC; it keeps each of the two bits, or else sets it. -/
def ReadsNeither (i : Instr) : Prop :=
  ∃ (f : State → State) (keepsInte keepsAc : Bool), (∀ s, exec i s = .next (f s)) ∧
    ∀ s v ac, f (s.withHidden v ac) =
      (f s).withHidden (if keepsInte then v else (f s).inte) (if keepsAc then ac else (f s).fl.ac)

/-- Overwriting one bit with what it holds already shows that the operation treats the other bit alone. -/
theorem ReadsNeither.exec_withHidden {i : Instr} (hi : ReadsNeither i) {s t : State} (h : exec i s = .next t)
    (v ac : Bool) : ∃ v' ac', exec i (s.withHidden v ac) = .next (t.withHidden v' ac') ∧
      (v = s.inte → v' = t.inte) ∧ (ac = s.fl.ac → ac' = t.fl.ac) := by
  obtain ⟨f, keepsInte, keepsAc, hexec, hf⟩ := hi
  obtain rfl := Host.Outcome.next.inj ((hexec s).symm.trans h)
  have hsame := hf s s.inte s.fl.ac
  refine ⟨_, _, (hexec _).trans (congrArg _ (hf s v ac)), ?_, ?_⟩
  · rintro rfl
    exact (congrArg State.inte hsame).symm
  · rintro rfl
    exact (congrArg (fun u => u.fl.ac) hsame).symm

section
variable (s : State) (v ac : Bool)

/-! ### Operands -/

@[simp] theorem State.reg8_withHidden (r : Reg8) : (s.withHidden v ac).reg8 r = s.reg8 r := by cases r <;> rfl

/-- No condition is a test of AC (45_branch.md R200). -/
@[simp] theorem State.cond_withHidden (cc : Cond) : (s.withHidden v ac).fl.cond cc = s.fl.cond cc := by cases cc <;> rfl

theorem State.setReg8_withHidden (r : Reg8) (x : Byte) :
    (s.withHidden v ac).setReg8 r x = (s.setReg8 r x).withHidden v ac := by
  cases r <;> rfl

/-- An ALU operation takes C alone from the flags, and sets its own AC. -/
theorem State.alu_withHidden (op : AluOp) (x : Byte) :
    (s.withHidden v ac).alu op x = (s.alu op x).withHidden v (s.alu op x).fl.ac := by
  cases op <;> rfl

theorem State.portWrite_withHidden (p x : Byte) :
    (s.withHidden v ac).portWrite p x = (s.portWrite p x).withHidden v ac := by
  simp only [State.portWrite_eq]
  rfl

end

/-! ### The instructions -/

theorem readsNeither {i : Instr} (hi : i ≠ .pushPSW) : ReadsNeither i := by
  cases i.view with
  | mov dst src h =>
    refine ⟨_, true, true, exec_ofMov dst src h, fun s v ac => ?_⟩
    rw [State.movReg, State.reg8_withHidden, State.setReg8_withHidden]
    rfl
  | mvi dst d8 =>
    refine ⟨_, true, true, exec_ofMvi dst d8, fun s v ac => ?_⟩
    rw [State.moveImm, State.setReg8_withHidden]
    rfl
  | alu op r =>
    refine ⟨_, true, false, exec_ofAlu op r, fun s v ac => ?_⟩
    rw [State.aluReg, State.reg8_withHidden, State.alu_withHidden]
    rfl
  | aluImm op d8 =>
    refine ⟨_, true, false, exec_ofAluImm op d8, fun s v ac => ?_⟩
    rw [State.aluImm, State.alu_withHidden]
    rfl
  | inr r =>
    refine ⟨_, true, false, exec_ofInr r, fun s v ac => ?_⟩
    rw [State.increment, State.reg8_withHidden, State.setReg8_withHidden]
    rfl
  | dcr r =>
    refine ⟨_, true, false, exec_ofDcr r, fun s v ac => ?_⟩
    rw [State.decrement, State.reg8_withHidden, State.setReg8_withHidden]
    rfl
  | push rp =>
    cases rp
    case psw => exact absurd rfl hi
    all_goals exact ⟨_, true, true, fun _ => rfl, fun _ _ _ => rfl⟩
  | pop rp =>
    cases rp
    case psw => exact ⟨_, true, false, exec_ofPop .psw, fun _ _ _ => rfl⟩
    all_goals exact ⟨_, true, true, fun _ => rfl, fun _ _ _ => rfl⟩
  | lxi rp d16 => exact ⟨_, true, true, exec_ofLxi rp d16, fun _ _ _ => by cases rp <;> rfl⟩
  | ldax rp => exact ⟨_, true, true, exec_ofLdax rp, fun _ _ _ => by cases rp <;> rfl⟩
  | stax rp => exact ⟨_, true, true, exec_ofStax rp, fun _ _ _ => by cases rp <;> rfl⟩
  | dad rp => exact ⟨_, true, true, exec_ofDad rp, fun _ _ _ => by cases rp <;> rfl⟩
  | inx rp => exact ⟨_, true, true, exec_ofInx rp, fun _ _ _ => by cases rp <;> rfl⟩
  | dcx rp => exact ⟨_, true, true, exec_ofDcx rp, fun _ _ _ => by cases rp <;> rfl⟩
  | jump cc a16 =>
    refine ⟨_, true, true, exec_ofJump cc a16, fun s v ac => ?_⟩
    rw [State.cond_withHidden]
    cases s.fl.cond cc <;> rfl
  | callIf cc a16 =>
    refine ⟨_, true, true, exec_ofCall cc a16, fun s v ac => ?_⟩
    rw [State.cond_withHidden]
    cases s.fl.cond cc <;> rfl
  | returnIf cc =>
    refine ⟨_, true, true, exec_ofReturn cc, fun s v ac => ?_⟩
    rw [State.cond_withHidden]
    cases s.fl.cond cc <;> rfl
  | rst n => exact ⟨_, true, true, exec_ofRst n, fun _ _ _ => rfl⟩
  | outPort p =>
    refine ⟨_, true, true, exec_outPort p, fun s v ac => ?_⟩
    rw [State.output, State.portWrite_withHidden]
    rfl
  | di => exact ⟨_, false, true, exec_di, fun _ _ _ => rfl⟩
  | ei => exact ⟨_, false, true, exec_ei, fun _ _ _ => rfl⟩
  | lda _ | sta _ | lhld _ | shld _ | jmp _ | call _ | inPort _ | xchg | rlc | rrc | ral | rar | cma | stc | cmc | xthl
  | sphl | ret | pchl | nop | hlt | unsupported _ | unsupportedDAA =>
    exact ⟨_, true, true, fun _ => rfl, fun _ _ _ => rfl⟩

/-- Settles O25: the latch is overwritten with what it holds. -/
theorem onlyPushPswReadsAuxiliaryCarry : Obligations.OnlyPushPswReadsAuxiliaryCarry := by
  intro i s t ac hi h
  obtain ⟨v', ac', hexec, hinte, -⟩ := (readsNeither hi).exec_withHidden h s.inte ac
  obtain rfl := hinte rfl
  exact ⟨ac', hexec⟩

/-- Settles O26: PUSH PSW, which reads AC, is looked at by itself. -/
theorem noInstructionReadsTheLatch : Obligations.NoInstructionReadsTheLatch := by
  intro i s t v h
  by_cases hi : i = .pushPSW
  · subst hi
    obtain rfl := Host.Outcome.next.inj h
    exact ⟨v, rfl⟩
  · obtain ⟨v', ac', hexec, -, hac⟩ := (readsNeither hi).exec_withHidden h v s.fl.ac
    obtain rfl := hac rfl
    exact ⟨v', hexec⟩

end Sys2Proof.Machine

/-! PROOFS. What each data transfer, arithmetic, logical and rotate instruction answers, and its frame
(40_data_transfer.md to 43_rotate_and_carry.md). -/

namespace Sys2Proof.Machine

/-! ### Data transfer -/

/-- SetReg8 puts the byte in its destination. -/
theorem State.setReg8_holds (s : State) (dst : Reg8) (v : Byte) :
    (dst ≠ .m → (s.setReg8 dst v).reg8 dst = v) ∧ (dst = .m → (s.setReg8 dst v).read8 (s.pair .hl) = v) := by
  refine ⟨State.reg8_setReg8 s dst v, ?_⟩
  rintro rfl
  exact State.read8_setReg8_m s v

/-- Settles O28: both are SetReg8 and then PC. -/
theorem movAndMviMoveOneByte : Obligations.MovAndMviMoveOneByte := by
  intro dst s
  refine ⟨fun src h => ⟨_, exec_ofMov dst src h s, frame_movReg s dst src, ?_⟩,
    fun d8 => ⟨_, exec_ofMvi dst d8 s, frame_moveImm s dst d8, ?_⟩⟩
  · simpa [State.movReg, State.nextPc] using State.setReg8_holds s dst (s.reg8 src)
  · simpa [State.moveImm, State.nextPc] using State.setReg8_holds s dst d8

/-- Settles O29: LXI is SetPair and then PC. -/
theorem lxiLoadsThePair : Obligations.LxiLoadsThePair := by
  intro rp d16 s
  refine ⟨_, exec_ofLxi rp d16 s, frame_loadPair s rp d16, State.setPair_fl s rp d16, ?_,
    State.pair_setPair s rp d16, fun h => State.setPair_sp_of_ne h s d16⟩
  rw [State.loadPair, State.advance_pc, State.nextPc, State.setPair_pc]
  rfl

/-- STA and STAX leave A at the address. -/
theorem State.read8_storeA (s : State) (addr : Word) (len : Nat) : (s.storeA addr len).read8 addr = s.a := by
  rw [State.storeA, State.read8_advance, State.read8_write8, if_pos rfl]

/-- Settles O30: each is one byte access at the instruction's own address. -/
theorem accumulatorLoadsAndStores : Obligations.AccumulatorLoadsAndStores := by
  intro s
  refine ⟨fun a16 => ?lda, fun rp => ?ldax, fun a16 => ?sta, fun rp => ?stax⟩
  case lda => exact ⟨_, exec_lda a16 s, frame_loadA s a16 3, rfl, rfl, rfl, rfl⟩
  case ldax => exact ⟨_, exec_ofLdax rp s, frame_loadA s _ 1, rfl, rfl, rfl, rfl⟩
  case sta => exact ⟨_, exec_sta a16 s, frame_storeA s a16 3, rfl, rfl, rfl, State.read8_storeA s a16 3⟩
  case stax => exact ⟨_, exec_ofStax rp s, frame_storeA s _ 1, rfl, rfl, rfl, State.read8_storeA s _ 1⟩

/-- Settles O31: a word access is little-endian, and H:L and D:E are joined bytes. -/
theorem hlLoadsStoresAndExchange : Obligations.HlLoadsStoresAndExchange := by
  intro s
  refine ⟨fun a16 => ?lhld, fun a16 => ?shld, ?xchg⟩
  case lhld =>
    exact ⟨_, exec_lhld a16 s, frame_loadHl s a16, rfl, rfl, rfl, loByte_joinBytes _ _, hiByte_joinBytes _ _⟩
  case shld =>
    refine ⟨_, exec_shld a16 s, frame_storeHl s a16, State.storeHl_fl s a16, State.storeHl_sp s a16, rfl, ?_, ?_⟩
    · rw [State.storeHl, State.read8_advance, State.read8_write16_lo]
      exact loByte_joinBytes _ _
    · rw [State.storeHl, State.read8_advance, State.read8_write16_hi]
      exact hiByte_joinBytes _ _
  case xchg =>
    refine ⟨_, exec_xchg s, frame_exchangeHlDe s, rfl, rfl, rfl, ?_, ?_⟩
    · exact joinBytes_hiByte_loByte _
    · exact joinBytes_hiByte_loByte _

/-! ### The ALU operations, in all their forms -/

/-- What an ALU operation does to A and the flags holds of its register, M and immediate forms alike. -/
theorem exec_alu_forms {s : State} {op : AluOp} {v : Byte} {regs : List Reg8} {result : State → Prop}
    (hframe : Frame regs [] s (s.alu op v)) (hresult : ∀ len, result ((s.alu op v).advance len)) :
    (∀ r : Reg8, v = s.reg8 r → ∃ t : State, exec (.ofAlu op r) s = .next t ∧ Frame regs [] s t ∧ t.sp = s.sp ∧
      t.pc = s.pc + 1 ∧ result t) ∧
    (∃ t : State, exec (.ofAluImm op v) s = .next t ∧ Frame regs [] s t ∧ t.sp = s.sp ∧ t.pc = s.pc + 2 ∧ result t) := by
  refine ⟨?_, _, exec_ofAluImm op v s, hframe.advance 2, rfl, rfl, hresult 2⟩
  rintro r rfl
  exact ⟨_, exec_ofAlu op r s, hframe.advance 1, rfl, rfl, hresult 1⟩

/-- Settles O32: ADD and ADC are `Add8` with carry-in 0 or C. -/
theorem additionsSetAccumulatorAndFlags : Obligations.AdditionsSetAccumulatorAndFlags := by
  intro s withCarry v
  cases withCarry
  · have hadd := add8_spec s.a v false
    exact exec_alu_forms (frame_alu s .add v) fun _ => ⟨congrArg (·.1.toNat) hadd, congrArg Prod.snd hadd⟩
  · have hadd := add8_spec s.a v s.fl.c
    exact exec_alu_forms (frame_alu s .adc v) fun _ => ⟨congrArg (·.1.toNat) hadd, congrArg Prod.snd hadd⟩

/-- The result of `Sub8` as a number, and its flags from the result. -/
theorem sub8_toNat_and_flags (a v : Byte) (bin : Bool) :
    let res := (a.toNat + 512 - v.toNat - bin.toNat) % 256
    (sub8 a v bin).1.toNat = res ∧
    (sub8 a v bin).2 =
      { z := decide (res = 0), s := decide (res ≥ 128), p := parity8 (sub8 a v bin).1,
        c := decide (a.toNat < v.toNat + bin.toNat), ac := decide (a.toNat % 16 ≥ v.toNat % 16 + bin.toNat) } := by
  rw [sub8_spec]
  exact ⟨by rw [BitVec.toNat_ofNat, Nat.mod_mod], rfl⟩

/-- Settles O33: SUB and SBB are `Sub8` with borrow-in 0 or C. -/
theorem subtractionsSetAccumulatorAndFlags : Obligations.SubtractionsSetAccumulatorAndFlags := by
  intro s withBorrow v
  cases withBorrow
  · exact exec_alu_forms (frame_alu s .sub v) fun _ => sub8_toNat_and_flags s.a v false
  · exact exec_alu_forms (frame_alu s .sbb v) fun _ => sub8_toNat_and_flags s.a v s.fl.c

/-- `Sub8` without borrow is the difference of bytes: Z is equality, C is unsigned "below". -/
theorem sub8_false (a v : Byte) :
    sub8 a v false = (a - v, { z := decide (a = v), s := (a - v).msb, p := parity8 (a - v), c := decide (a < v),
                               ac := decide (a.toNat % 16 ≥ v.toNat % 16) }) := by
  have ha := a.isLt
  have hv := v.isLt
  have hres : (a - v).toNat = (a.toNat + 512 - v.toNat - 0) % 256 := by
    rw [BitVec.toNat_sub]
    omega
  have hbyte : BitVec.ofNat 8 ((a.toNat + 512 - v.toNat - 0) % 256) = a - v := by
    rw [← hres, BitVec.ofNat_toNat, BitVec.setWidth_eq]
  have hz : (a.toNat + 512 - v.toNat - 0) % 256 = 0 ↔ a = v := by
    rw [← BitVec.toNat_inj]
    omega
  rw [sub8_spec]
  simp only [Bool.toNat_false, hbyte, hz, Nat.add_zero, BitVec.lt_def, BitVec.msb_eq_decide, hres]

/-- CMP and CPI keep A. -/
theorem frame_alu_cmp (s : State) (v : Byte) : Frame [] [] s (s.alu .cmp v) := (Frame.refl _ _ s).setFl _

/-- Settles O34: CMP takes the flags of `Sub8` and leaves A. -/
theorem compareSetsFlagsOnly : Obligations.CompareSetsFlagsOnly := by
  intro s v
  have hfl := congrArg Prod.snd (sub8_false s.a v)
  exact exec_alu_forms (op := .cmp) (frame_alu_cmp s v) fun _ => hfl

/-- The flags of `Logic8` in terms of its result. -/
theorem logic8_flags (res : Byte) :
    (logic8 res).2 = { z := decide (res = 0#8), s := res.msb, p := parity8 res, c := false, ac := false } := by
  rw [BitVec.msb_eq_getLsbD_last]
  rfl

/-- Settles O35: bit `n` of a bitwise operation is the operation on bits `n`. -/
theorem logicalOperationsAreBitwise : Obligations.LogicalOperationsAreBitwise := by
  intro s op f v h
  rcases h with ⟨rfl, rfl⟩ | ⟨rfl, rfl⟩ | ⟨rfl, rfl⟩
  · exact exec_alu_forms (frame_alu s .ana v) fun _ => ⟨fun _ _ => BitVec.getLsbD_and, logic8_flags _⟩
  · exact exec_alu_forms (frame_alu s .xra v) fun _ => ⟨fun _ _ => BitVec.getLsbD_xor, logic8_flags _⟩
  · exact exec_alu_forms (frame_alu s .ora v) fun _ => ⟨fun _ _ => BitVec.getLsbD_or, logic8_flags _⟩

/-- Settles O39: in numbers, the complement of a byte is 255 less the byte. -/
theorem subtractionIsComplementAddition : Obligations.SubtractionIsComplementAddition := by
  intro a v bin
  have ha := a.isLt
  have hv := v.isLt
  have hnot : (~~~v).toNat = 255 - v.toNat := BitVec.toNat_not
  have hbin : (!bin).toNat = 1 - bin.toNat := by cases bin <;> rfl
  have hbin1 := bin.toNat_le
  have hres : (a.toNat + (~~~v).toNat + (!bin).toNat) % 256 = (a.toNat + 512 - v.toNat - bin.toNat) % 256 := by omega
  have hbyte : BitVec.ofNat 8 (a.toNat + (~~~v).toNat + (!bin).toNat) =
      BitVec.ofNat 8 ((a.toNat + 512 - v.toNat - bin.toNat) % 256) := by rw [← hres, byte_ofNat_mod]
  have hc : a.toNat < v.toNat + bin.toNat ↔ ¬ a.toNat + (~~~v).toNat + (!bin).toNat > 255 := by omega
  have hac : a.toNat % 16 ≥ v.toNat % 16 + bin.toNat ↔ a.toNat % 16 + (~~~v).toNat % 16 + (!bin).toNat > 15 := by omega
  simp only [sub8_spec, add8_spec, hbyte, hres, hc, hac, decide_not]

/-! ### Increments, decrements and 16-bit additions -/

/-- What INR and DCR leave in the destination, whichever it is. -/
theorem State.setReg8_reads (s : State) (r : Reg8) (v : Byte) (fl : Flags) (len : Nat) :
    if r = .m then (((s.setReg8 r v).setFl fl).advance len).read8 (s.pair .hl) = v
    else (((s.setReg8 r v).setFl fl).advance len).reg8 r = v := by
  split
  · next h => simpa using (State.setReg8_holds s r v).2 h
  · next h => simpa using (State.setReg8_holds s r v).1 h

/-- Settles O36: `inr8` and `dcr8` in numbers, put in the destination. -/
theorem incrementAndDecrementKeepCarry : Obligations.IncrementAndDecrementKeepCarry := by
  intro r s
  refine ⟨⟨_, exec_ofInr r s, frame_increment s r, State.setReg8_sp s r _, ?_, ?_⟩,
    ⟨_, exec_ofDcr r s, frame_decrement s r, State.setReg8_sp s r _, ?_, ?_⟩⟩
  · simp [State.increment, State.nextPc]
  · rw [State.increment, inr8_spec]
    exact ⟨State.setReg8_reads s r _ _ 1, rfl⟩
  · simp [State.decrement, State.nextPc]
  · rw [State.decrement, dcr8_spec]
    exact ⟨State.setReg8_reads s r _ _ 1, rfl⟩

/-- Settles O37: `dad16` in numbers, put in HL. -/
theorem dadAddsToHlAndWritesCarry : Obligations.DadAddsToHlAndWritesCarry := by
  intro rp s
  refine ⟨_, exec_ofDad rp s, frame_addToHl s rp, rfl, rfl, ?_, ?_⟩
  · simp only [State.addToHl, State.pair_advance, State.pair_setFl, State.pair_setPair, dad16_spec]
  · simp only [State.addToHl, State.advance_fl, State.setFl_fl, dad16_spec]

/-- Settles O38: SetPair of the pair plus or minus 1, in numbers. -/
theorem inxAndDcxWriteNoFlag : Obligations.InxAndDcxWriteNoFlag := by
  intro rp s
  have hlt := (s.pair rp).isLt
  refine ⟨⟨_, exec_ofInx rp s, frame_incrementPair s rp, State.setPair_fl s rp _, ?_, ?_,
      fun h => State.setPair_sp_of_ne h s _⟩,
    ⟨_, exec_ofDcx rp s, frame_decrementPair s rp, State.setPair_fl s rp _, ?_, ?_,
      fun h => State.setPair_sp_of_ne h s _⟩⟩
  · simp [State.incrementPair, State.nextPc]
  · rw [State.incrementPair, State.pair_advance, State.pair_setPair, BitVec.toNat_add]
    rfl
  · simp [State.decrementPair, State.nextPc]
  · rw [State.decrementPair, State.pair_advance, State.pair_setPair, BitVec.toNat_sub, Nat.add_comm]
    rfl

/-! ### Rotates, complement and carry -/

/-- RLC is the rotation of the 8 bits to the left. -/
theorem rlc8_eq_rotateLeft (a : Byte) (fl : Flags) : (rlc8 a fl).1 = a.rotateLeft 1 := by
  apply BitVec.eq_of_getLsbD_eq
  intro n hn
  interval_cases n <;> simp [rlc8]

theorem rrc8_eq_rotateRight (a : Byte) (fl : Flags) : (rrc8 a fl).1 = a.rotateRight 1 := by
  apply BitVec.eq_of_getLsbD_eq
  intro n hn
  interval_cases n <;> simp [rrc8]

/-- RAL is the rotation of the 9 bits C:A to the left. -/
theorem ral8_eq_rotateLeft (a : Byte) (fl : Flags) :
    BitVec.cons (ral8 a fl).2.c (ral8 a fl).1 = (BitVec.cons fl.c a).rotateLeft 1 := by
  apply BitVec.eq_of_getLsbD_eq
  intro n hn
  interval_cases n <;> simp [ral8, BitVec.getElem_cons]

theorem rar8_eq_rotateRight (a : Byte) (fl : Flags) :
    BitVec.cons (rar8 a fl).2.c (rar8 a fl).1 = (BitVec.cons fl.c a).rotateRight 1 := by
  apply BitVec.eq_of_getLsbD_eq
  intro n hn
  interval_cases n <;> simp [rar8, BitVec.getElem_cons]

/-- Settles O41: A and C after each rotate are those of the rotated bits. -/
theorem rotatesMoveOneBit : Obligations.RotatesMoveOneBit := by
  intro s
  exact ⟨⟨_, exec_rlc s, frame_rotate s _, rfl, rfl, rfl, rlc8_eq_rotateLeft s.a s.fl⟩,
    ⟨_, exec_rrc s, frame_rotate s _, rfl, rfl, rfl, rrc8_eq_rotateRight s.a s.fl⟩,
    ⟨_, exec_ral s, frame_rotate s _, rfl, rfl, rfl, ral8_eq_rotateLeft s.a s.fl⟩,
    ⟨_, exec_rar s, frame_rotate s _, rfl, rfl, rfl, rar8_eq_rotateRight s.a s.fl⟩⟩

/-- Settles O42: each is one write of A or of C. -/
theorem complementAndCarryInstructions : Obligations.ComplementAndCarryInstructions := by
  intro s
  exact ⟨⟨_, exec_cma s, frame_complement s, rfl, rfl, rfl, BitVec.toNat_not⟩,
    ⟨_, exec_stc s, frame_writeCarry s _, rfl, rfl, rfl⟩,
    ⟨_, exec_cmc s, frame_writeCarry s _, rfl, rfl, rfl⟩⟩

end Sys2Proof.Machine

/-! PROOFS. The flag byte (10_state.md R41, R42), the stack (44_stack.md), branches, calls and returns (45_branch.md), and the
optional host interrupt (60_exceptions.md R235, R236). -/

namespace Sys2Proof.Machine

/-! ### The flag byte -/

/-- Settles O48: the bits of a packed byte are known, so both round trips are bit by bit. -/
theorem flagByteRoundTrip : Obligations.FlagByteRoundTrip := by
  refine ⟨fun fl => ?_, fun b => ?_⟩
  · obtain ⟨h0, -, h2, -, h4, -, h6, h7⟩ := flagByteLayout fl
    rw [unpackF, h0, h2, h4, h6, h7]
  · obtain ⟨h0, h1, h2, h3, h4, h5, h6, h7⟩ := flagByteLayout (unpackF b)
    apply BitVec.eq_of_getLsbD_eq
    intro n hn
    rw [BitVec.getLsbD_or, BitVec.getLsbD_and]
    interval_cases n
    · rw [h0]
      simp [unpackF]
    · rw [h1]
      simp
    · rw [h2]
      simp [unpackF]
    · rw [h3]
      simp
    · rw [h4]
      simp [unpackF]
    · rw [h5]
      simp
    · rw [h6]
      simp [unpackF]
    · rw [h7]
      simp [unpackF]

/-! ### PUSH, POP, XTHL, SPHL -/

section
variable (s : State) (v : Word)

/-- `Push16` puts the high byte at `sp - 1`. -/
theorem State.read8_push16_hi : (s.push16 v).read8 (s.sp - 1) = hiByte v := by
  rw [State.read8_push16, if_neg (sub_one_ne_sub_two _), if_pos rfl]

/-- `Push16` puts the low byte at `sp - 2`. -/
theorem State.read8_push16_lo : (s.push16 v).read8 (s.sp - 2) = loByte v := by
  rw [State.read8_push16, if_pos rfl]

end

/-- Settles O43: the two bytes of `Push16`, the halves of the pair. -/
theorem pushStoresAPair : Obligations.PushStoresAPair := by
  intro rp s
  refine ⟨_, exec_ofPush rp s, frame_pushPair s rp, State.pushPair_fl s rp, rfl, rfl, ?_⟩
  rw [State.pushPair, State.read8_advance, State.read8_advance, State.read8_push16_hi, State.read8_push16_lo]
  cases rp <;> simp [State.stackPair]

/-- Settles O44: the two bytes of `Pop16`, the halves of the pair. -/
theorem popLoadsAPair : Obligations.PopLoadsAPair := by
  intro rp s
  refine ⟨_, exec_ofPop rp s, frame_popPair s rp, State.setStackPair_sp _ rp _, ?_, ?_⟩
  · cases rp <;> rfl
  · cases rp <;> simp [State.popPair, State.setStackPair, State.top16, unpackF]

/-- Settles O45: both bytes are read before HL is stored. -/
theorem xthlAndSphl : Obligations.XthlAndSphl := by
  intro s
  refine ⟨⟨_, exec_xthl s, frame_exchangeHlTop s, State.exchangeHlTop_fl s, State.exchangeHlTop_sp s, rfl,
    loByte_joinBytes _ _, hiByte_joinBytes _ _, ?_, ?_⟩,
    ⟨_, exec_sphl s, frame_sphl s, rfl, rfl, rfl⟩⟩
  · rw [State.exchangeHlTop, State.read8_advance, State.read8_setPair, State.read8_write16_lo]
    exact loByte_joinBytes _ _
  · rw [State.exchangeHlTop, State.read8_advance, State.read8_setPair, State.read8_write16_hi]
    exact hiByte_joinBytes _ _

/-! ### PUSH and then POP -/

/-- What POP stores is what a later reading of the pair gives, but for F. -/
theorem State.stackPair_setStackPair (s : State) {rp : StackPair} (h : rp ≠ .psw) (v : Word) :
    (s.setStackPair rp v).stackPair rp = v := by
  cases rp
  case psw => exact absurd rfl h
  all_goals exact joinBytes_hiByte_loByte v

theorem State.setStackPair_fl_of_ne (s : State) {rp : StackPair} (h : rp ≠ .psw) (v : Word) :
    (s.setStackPair rp v).fl = s.fl := by
  cases rp
  case psw => exact absurd rfl h
  all_goals rfl

theorem State.stackPair_advance (s : State) (rp : StackPair) (len : Nat) : (s.advance len).stackPair rp = s.stackPair rp := by
  cases rp <;> rfl

/-- Settles O46: POP takes from the stack the value PUSH put there. -/
theorem pushThenPopRestores : Obligations.PushThenPopRestores := by
  intro rp rq s t h
  obtain rfl := Host.Outcome.next.inj ((exec_ofPush rp s).symm.trans h)
  have htop : (s.pushPair rp).top16 = s.stackPair rp := State.top16_push16 s (s.stackPair rp)
  have hfl : (s.pushPair rp).drop16.fl = s.fl := State.pushPair_fl s rp
  refine ⟨_, exec_ofPop rq _, ?sp, ?pc, ?frame, fun hrq => ⟨?value, ?flags⟩, ?psw⟩
  case sp =>
    rw [State.popPair, State.advance_sp, State.setStackPair_sp, State.drop16_sp]
    exact BitVec.sub_add_cancel s.sp 2
  case pc =>
    rw [State.popPair, State.advance_pc, State.nextPc, State.setStackPair_pc]
    exact BitVec.add_assoc s.pc 1 1
  case frame =>
    have hpush := (frame_pushPair s rp).mono (List.nil_subset (stackRegs rq)) (List.Subset.refl _)
    exact hpush.trans ((frame_popPair _ rq).mono (List.Subset.refl _) (List.nil_subset _))
  case value => rw [State.popPair, State.stackPair_advance, State.stackPair_setStackPair _ hrq, htop]
  case flags => rw [State.popPair, State.advance_fl, State.setStackPair_fl_of_ne _ hrq, hfl]
  case psw =>
    rintro rfl rfl
    rw [State.popPair, htop]
    exact ⟨hiByte_joinBytes _ _, (congrArg unpackF (loByte_joinBytes _ _)).trans (flagByteRoundTrip.1 s.fl)⟩

/-! ### Branches -/

/-- Settles O49: a condition is one flag with one polarity. -/
theorem jumpsWritePcOnly : Obligations.JumpsWritePcOnly := by
  intro s
  refine ⟨fun a16 => rfl, rfl, fun a16 cc flag polarity h => ?_⟩
  have hcond : s.fl.cond cc = decide (flag = polarity) := by
    simp only [List.mem_cons, List.not_mem_nil, or_false, Prod.mk.injEq] at h
    rcases h with ⟨rfl, rfl, rfl⟩ | ⟨rfl, rfl, rfl⟩ | ⟨rfl, rfl, rfl⟩ | ⟨rfl, rfl, rfl⟩ | ⟨rfl, rfl, rfl⟩ |
      ⟨rfl, rfl, rfl⟩ | ⟨rfl, rfl, rfl⟩ | ⟨rfl, rfl, rfl⟩ <;> simp [Flags.cond]
  rw [exec_ofJump, hcond, State.jumpIf]
  by_cases hflag : flag = polarity
  · simp only [hflag]
    rfl
  · simp only [hflag]
    rfl

/-- The return address as the two bytes on the stack. -/
theorem State.read8_call (s : State) (len : Nat) (target : Word) :
    ((s.call len target).read8 (s.sp - 1)).toNat = (s.pc.toNat + len) % 65536 / 256 ∧
    ((s.call len target).read8 (s.sp - 2)).toNat = (s.pc.toNat + len) % 256 := by
  have hnext : (s.nextPc len).toNat = (s.pc.toNat + len) % 65536 := by
    rw [State.nextPc, BitVec.toNat_add, BitVec.toNat_ofNat, Nat.add_mod_mod]
  rw [State.call, State.read8_setPc, State.read8_setPc, State.read8_push16_hi, State.read8_push16_lo, hiByte_toNat,
    loByte_toNat, hnext]
  omega

/-- Settles O50: each is `Push16` of the following address and then PC. -/
theorem callsPushTheReturnAddress : Obligations.CallsPushTheReturnAddress := by
  intro s
  refine ⟨fun a16 => ?_, fun n => ?_, fun cc a16 hcc => ?_, fun cc a16 hcc => ?_⟩
  · exact ⟨_, exec_call a16 s, frame_call s 3 a16, State.call_fl s 3 a16, rfl, rfl, State.read8_call s 3 a16⟩
  · exact ⟨_, exec_ofRst n s, frame_call s 1 _, State.call_fl s 1 _, rfl, rfl, State.read8_call s 1 _⟩
  · refine ⟨s.call 3 a16, ?_, frame_call s 3 a16, State.call_fl s 3 a16, rfl, rfl, State.read8_call s 3 a16⟩
    rw [exec_ofCall, hcc, State.callIf, if_pos rfl]
  · rw [exec_ofCall, hcc]
    rfl

theorem State.top16_eq_ofNat (s : State) :
    s.top16 = BitVec.ofNat 16 ((s.read8 s.sp).toNat + 256 * (s.read8 (s.sp + 1)).toNat) := by
  apply BitVec.eq_of_toNat_eq
  have hlt := (s.top16).isLt
  rw [State.top16, joinBytes_toNat] at hlt ⊢
  rw [BitVec.toNat_ofNat]
  omega

/-- Settles O51: each is `Pop16` and then PC. -/
theorem returnsPopPc : Obligations.ReturnsPopPc := by
  intro s
  have hret : s.return16 = { s with
      pc := BitVec.ofNat 16 ((s.read8 s.sp).toNat + 256 * (s.read8 (s.sp + 1)).toNat), sp := s.sp + 2 } := by
    rw [State.return16, State.top16_eq_ofNat]
    rfl
  refine ⟨?_, fun cc hcc => ?_, fun cc hcc => ?_⟩
  · rw [exec_ret, hret]
  · rw [exec_ofReturn, hcc, State.returnIf, if_pos rfl, hret]
  · rw [exec_ofReturn, hcc]
    rfl

/-- Settles O52: RET takes from the stack the address CALL put there. -/
theorem returnAfterCallResumes : Obligations.ReturnAfterCallResumes := by
  intro a16 s t h
  obtain rfl := Host.Outcome.next.inj ((exec_call a16 s).symm.trans h)
  have htop : (s.call 3 a16).top16 = s.nextPc 3 := State.top16_push16 s (s.nextPc 3)
  refine ⟨_, exec_ret _, htop, BitVec.sub_add_cancel s.sp 2, State.call_fl s 3 a16, ?_⟩
  exact (frame_call s 3 a16).trans ((frame_return16 _).mono (List.nil_subset _) (List.nil_subset _))

/-- Settles O53: the store changes the byte at PC + 3 alone, and that is where the next step fetches. -/
theorem storeIsSeenByTheNextFetch : Obligations.StoreIsSeenByTheNextFetch := by
  intro s hrun hfetch
  have h4 : s.pc + 3 + 1 = s.pc + 4 := BitVec.add_assoc s.pc 3 1
  have h5 : s.pc + 3 + 2 = s.pc + 5 := BitVec.add_assoc s.pc 3 2
  have hread : ∀ b, (s.storeA (s.pc + 3) 3).read8 b = if b = s.pc + 3 then s.a else s.read8 b := fun b =>
    State.read8_write8 s (s.pc + 3) b s.a
  refine ⟨s.storeA (s.pc + 3) 3, ?_, ?_⟩
  · rw [step_running s hrun, hfetch, exec_sta]
  · rw [step_running (s.storeA (s.pc + 3) 3) hrun]
    show exec (decodeAt ((s.storeA (s.pc + 3) 3).read8 (s.pc + 3)) ((s.storeA (s.pc + 3) 3).read8 (s.pc + 3 + 1))
      ((s.storeA (s.pc + 3) 3).read8 (s.pc + 3 + 2))) _ = _
    rw [hread, hread, hread, if_pos rfl, if_neg (add_one_ne _), if_neg (by simp), h4, h5]

/-! ### The host interrupt -/

/-- Settles O59: taken, the interrupt is an RST with the latch cleared. -/
theorem hostInterruptIsOptional : Obligations.HostInterruptIsOptional := by
  intro n s
  refine ⟨rfl, fun h => if_neg h, fun hrun hinte => ?_⟩
  refine ⟨(s.push16 s.pc).setPc (BitVec.ofNat 16 (8 * n.val)), ?_, (frame_push16 s s.pc).setPc _, ?_, rfl, ?_, ?_⟩
  · rw [State.hostInterrupt, if_pos ⟨hrun, hinte⟩]
    rfl
  · rw [State.setPc_fl, State.push16_fl]
  · rw [State.setPc_pc, BitVec.toNat_ofNat]
    omega
  · exact State.top16_push16 s s.pc

end Sys2Proof.Machine

/-! PROOFS. Input, output and control (46_io.md, 47_control.md, 60_exceptions.md R246 to R249). -/

namespace Sys2Proof.Machine

/-! ### Ports -/

/-- PortRead, in numbers. -/
theorem State.portRead_eq (s : State) (p : Byte) :
    s.portRead p =
      if p.toNat = 3 then BitVec.ofNat 8 (s.shiftReg.toNat / 2 ^ (8 - s.shiftAmount.toNat))
      else if p.toNat = 1 ∨ p.toNat = 2 then Config.portIn p s.portReads else 0x00#8 := by
  simp only [State.portRead, port_eq_iff p 3 (by decide), port_eq_iff p 1 (by decide), port_eq_iff p 2 (by decide),
    State.shiftResult_eq]

/-- Settles O54: `PortRead` in numbers, put in A. -/
theorem inputReadsThePort : Obligations.InputReadsThePort := by
  intro p s
  rw [exec_inPort, State.input, State.portRead_eq]
  rfl

theorem byte_setWidth_three (v : Byte) : v.setWidth 3 = BitVec.ofNat 3 (v.toNat % 8) :=
  BitVec.eq_of_toNat_eq (by simp)

/-- Settles O55: `PortWrite` in numbers. -/
theorem outputWritesThePort : Obligations.OutputWritesThePort := by
  intro p s
  rw [exec_outPort, State.output, State.portWrite_eq, byte_setWidth_three]
  rfl

section
variable {s t : State} {v : Byte}

/-- OUT 4 puts the byte above the old high byte, which moves down (60_exceptions.md R246). -/
theorem shiftReg_of_outPort_four (h : exec (.outPort 4#8) { s with a := v } = .next t) :
    t.shiftReg.toNat = v.toNat * 256 + s.shiftReg.toNat / 256 := by
  have hv := v.isLt
  have hr := s.shiftReg.isLt
  have ht : t.shiftReg = BitVec.ofNat 16 (v.toNat * 256 + s.shiftReg.toNat / 256) :=
    congrArg State.shiftReg (Host.Outcome.next.inj (h.symm.trans (outputWritesThePort 4#8 _)))
  rw [ht, BitVec.toNat_ofNat]
  omega

theorem shift_of_outPort_two (h : exec (.outPort 2#8) { s with a := v } = .next t) :
    t.shiftReg = s.shiftReg ∧ t.shiftAmount.toNat = v.toNat % 8 := by
  obtain rfl := Host.Outcome.next.inj ((outputWritesThePort 2#8 _).symm.trans h)
  refine ⟨rfl, ?_⟩
  show (BitVec.ofNat 3 (v.toNat % 8)).toNat = _
  rw [BitVec.toNat_ofNat]
  omega

theorem a_of_inPort_three (h : exec (.inPort 3#8) s = .next t) :
    t.a.toNat = s.shiftReg.toNat / 2 ^ (8 - s.shiftAmount.toNat) % 256 := by
  have ht : t.a = BitVec.ofNat 8 (s.shiftReg.toNat / 2 ^ (8 - s.shiftAmount.toNat)) :=
    congrArg State.a (Host.Outcome.next.inj (h.symm.trans (inputReadsThePort 3#8 _)))
  rw [ht, BitVec.toNat_ofNat]

end

/-- Settles O57: after two bytes nothing is left of what the register held. -/
theorem shiftDeviceThroughInOut : Obligations.ShiftDeviceThroughInOut := by
  intro x y n s t1 t2 t3 t4 h1 h2 h3 h4
  have hreg1 := shiftReg_of_outPort_four h1
  have hreg2 := shiftReg_of_outPort_four h2
  obtain ⟨hreg3, hamount⟩ := shift_of_outPort_two h3
  have htwo : t3.shiftReg.toNat = y.toNat * 256 + x.toNat := by
    have hold := s.shiftReg.isLt
    rw [hreg3, hreg2, hreg1]
    omega
  rw [a_of_inPort_three h4, htwo, hamount]

/-! ### Control -/

/-- Settles O58: each of the four writes PC and its one bit of state, by definition. -/
theorem controlInstructions : Obligations.ControlInstructions :=
  fun _ => ⟨rfl, rfl, rfl, rfl⟩

end Sys2Proof.Machine
